-- ==== Sys2Proof/Word.lean ====
section
/-! DEFINITION. The words of the ZW416: bytes on the serial lines, 32-bit sample times, counts and sequence numbers
(00_scope.md 5.2, 5.4; R1, R117, R178). -/

namespace Sys2Proof

/-- A byte of a command or response frame. -/
abbrev Byte := BitVec 8

/-- A sample time: a value of the free-running sample counter, wrapping at 2^32 (R1). -/
abbrev Time := BitVec 32

/-- A 32-bit count that wraps (R35, R133, R178, R180). -/
abbrev Count := BitVec 32

/-- A record's sequence number, wrapping at 2^32 (R117). -/
abbrev Seq := BitVec 32

end Sys2Proof
end

