-- ==== Sys2Proof/Syntax.lean ====
section
/-! DEFINITION. The names of lanes, rows, halves, channels, probes and ports (00_scope.md 4), the containers that hold
one value for each, and `Instr`: one constructor for every row of spec/opcode_table.json. -/

namespace Sys2Proof

/-! ### Names -/

/-- One of four: a lane L1..L4 or a probe P1..P4. -/
inductive Ix4 where
  | one | two | three | four
  deriving DecidableEq, Repr

/-- A lane L1..L4, L1 the rightmost (00_scope.md 4.1). -/
abbrev Lane := Ix4

/-- A pavement temperature probe P1..P4 (Chapter 3). -/
abbrev ProbeId := Ix4

/-- A strip row: A upstream, B downstream (00_scope.md 4.1). -/
inductive Row where
  | a | b
  deriving DecidableEq, Repr

/-- The half of a row that a half-strip covers (00_scope.md 4.1). -/
inductive Half where
  | right | left
  deriving DecidableEq, Repr

/-- A half-strip channel, named by lane, row and half (00_scope.md 4.2). -/
structure ChannelId where
  lane : Lane
  row  : Row
  half : Half
  deriving DecidableEq, Repr

/-- A serial command port (Chapter 10). -/
inductive PortId where
  | p1 | p2 | p3
  deriving DecidableEq, Repr

/-- The four lanes, or the four probes, in order. -/
def Ix4.all : List Ix4 := [.one, .two, .three, .four]

/-- The three ports in order. -/
def PortId.all : List PortId := [.p1, .p2, .p3]

/-- The two halves, RIGHT first. -/
def Half.all : List Half := [.right, .left]

/-- The two rows, A first. -/
def Row.all : List Row := [.a, .b]

/-- The half beside this one in the same lane-row. -/
def Half.opposite : Half → Half
  | .right => .left
  | .left  => .right

/-- The four channels of a lane, in index order A-R, A-L, B-R, B-L (00_scope.md 4.2). -/
def Ix4.channels (l : Lane) : List ChannelId :=
  [⟨l, .a, .right⟩, ⟨l, .a, .left⟩, ⟨l, .b, .right⟩, ⟨l, .b, .left⟩]

/-- The sixteen channels in index order 0..15 (00_scope.md 4.2). -/
def ChannelId.all : List ChannelId := Ix4.all.flatMap Ix4.channels

/-! ### Containers -/

/-- One value for each lane or probe. -/
structure Quad (α : Type) where
  one   : α
  two   : α
  three : α
  four  : α
  deriving DecidableEq, Repr

/-- The value of one lane or probe. -/
def Quad.get {α : Type} (q : Quad α) : Ix4 → α
  | .one => q.one
  | .two => q.two
  | .three => q.three
  | .four => q.four

/-- Replace the value of one lane or probe. -/
def Quad.set {α : Type} (q : Quad α) (i : Ix4) (v : α) : Quad α :=
  match i with
  | .one => { q with one := v }
  | .two => { q with two := v }
  | .three => { q with three := v }
  | .four => { q with four := v }

/-- The same value for all four. -/
def Quad.all {α : Type} (v : α) : Quad α := ⟨v, v, v, v⟩

/-- One value for each, from its name. -/
def Quad.of {α : Type} (f : Ix4 → α) : Quad α := ⟨f .one, f .two, f .three, f .four⟩

/-- The four values in order. -/
def Quad.toList {α : Type} (q : Quad α) : List α := [q.one, q.two, q.three, q.four]

/-- One value for each port. -/
structure Tri (α : Type) where
  p1 : α
  p2 : α
  p3 : α
  deriving DecidableEq, Repr

/-- The value of one port. -/
def Tri.get {α : Type} (t : Tri α) : PortId → α
  | .p1 => t.p1
  | .p2 => t.p2
  | .p3 => t.p3

/-- Replace the value of one port. -/
def Tri.set {α : Type} (t : Tri α) (p : PortId) (v : α) : Tri α :=
  match p with
  | .p1 => { t with p1 := v }
  | .p2 => { t with p2 := v }
  | .p3 => { t with p3 := v }

/-- One value for each port, from its name. -/
def Tri.of {α : Type} (f : PortId → α) : Tri α := ⟨f .p1, f .p2, f .p3⟩

/-- One value for each row of a lane. -/
structure Rows (α : Type) where
  a : α
  b : α
  deriving DecidableEq, Repr

/-- The value of one row. -/
def Rows.get {α : Type} (r : Rows α) : Row → α
  | .a => r.a
  | .b => r.b

/-- Replace the value of one row. -/
def Rows.set {α : Type} (r : Rows α) (i : Row) (v : α) : Rows α :=
  match i with
  | .a => { r with a := v }
  | .b => { r with b := v }

/-- One value for each half of a row. -/
structure Halves (α : Type) where
  right : α
  left  : α
  deriving DecidableEq, Repr

/-- The value of one half. -/
def Halves.get {α : Type} (h : Halves α) : Half → α
  | .right => h.right
  | .left => h.left

/-- Replace the value of one half. -/
def Halves.set {α : Type} (h : Halves α) (i : Half) (v : α) : Halves α :=
  match i with
  | .right => { h with right := v }
  | .left => { h with left := v }

/-- One value for each of the sixteen channels. -/
abbrev PerChannel (α : Type) := Quad (Rows (Halves α))

/-- The value of one channel. -/
def Quad.chan {α : Type} (q : PerChannel α) (c : ChannelId) : α := ((q.get c.lane).get c.row).get c.half

/-- Replace the value of one channel. -/
def Quad.setChan {α : Type} (q : PerChannel α) (c : ChannelId) (v : α) : PerChannel α :=
  q.set c.lane ((q.get c.lane).set c.row (((q.get c.lane).get c.row).set c.half v))

/-- One value for each channel, from its name. -/
def Quad.ofChan {α : Type} (f : ChannelId → α) : PerChannel α :=
  Quad.of fun l => ⟨⟨f ⟨l, .a, .right⟩, f ⟨l, .a, .left⟩⟩, ⟨f ⟨l, .b, .right⟩, f ⟨l, .b, .left⟩⟩⟩

/-- The value of one lane-row. -/
def Quad.row {α : Type} (q : Quad (Rows α)) (l : Lane) (r : Row) : α := (q.get l).get r

/-- Replace the value of one lane-row. -/
def Quad.setRow {α : Type} (q : Quad (Rows α)) (l : Lane) (r : Row) (v : α) : Quad (Rows α) :=
  q.set l ((q.get l).set r v)

/-! ### Operands -/

/-- A port's strapped role (R170). -/
inductive Role where
  | enforcement | statistics | maintenance | disabled
  deriving DecidableEq, Repr

/-- A port's strapped rate, in bit/s (R170). -/
inductive Rate where
  | b115200 | b460800 | b921600 | b1843200
  deriving DecidableEq, Repr

/-- One port's straps (R170). -/
structure Strap where
  role : Role
  rate : Rate
  deriving DecidableEq, Repr

/-- What the block reads from outside on one sample tick: a converter sample of every channel (R1), the level of every
presence input (R73, true for high), what each probe's converter would report (R41, none for a converter fault) and the
level of the restart input (R186, true for high). -/
structure Inputs where
  samples     : PerChannel (BitVec 12)
  presence    : Quad Bool
  probes      : Quad (Option Int)
  restartHigh : Bool
  deriving DecidableEq, Repr

/-! ### Commands -/

/-- The commands of the block, one constructor for each row of spec/opcode_table.json. A port command carries the port,
the tag and its request fields as coded in the frame (11.1). -/
inductive Instr where
  -- power, ticks and the site second
  | powerOn (straps : Tri Strap)
  | sampleTick (inputs : Inputs)
  -- strip channels
  | settlingComplete (channel : ChannelId)
  | hitEnd (channel : ChannelId)
  | maxHitDurationExceeded (channel : ChannelId)
  | holdCountReached (channel : ChannelId)
  | siteSecond
  -- crossings: `index` is the deciding hit's place in its pool, counted from 0
  | pairingDeadline (lane : Lane) (row : Row) (index : Nat)
  | rowAExpiry (lane : Lane)
  -- vehicles and triggers
  | presenceOccupied (lane : Lane)
  | presenceReleased (lane : Lane)
  | closeDelayExpiry (lane : Lane)
  | durationExpiry (lane : Lane)
  | triggerPulseEnd (lane : Lane)
  -- injection test
  | injectionPulse
  | testExpiry
  -- calibration control
  | claimIdleExpiry
  | commitTimeoutExpiry
  | activation
  | persistComplete (readBackEqual : Bool)
  -- restart
  | restartInput
  | restartTakesEffect
  -- serial link
  | lineBreak (port : PortId)
  | interByteGapTimeout (port : PortId)
  | frameReceived (port : PortId)
  | responseSent (port : PortId)
  -- notice lines
  | noticePulseEnd (port : PortId)
  | reminderExpiry (port : PortId)
  -- port commands
  | unknownCommand (port : PortId) (code tag : Byte)
  | status (port : PortId) (tag : Byte)
  | counters (port : PortId) (tag : Byte)
  | clearCounters (port : PortId) (tag : Byte)
  | notices (port : PortId) (tag : Byte)
  | ackNotices (port : PortId) (tag flags : Byte)
  | setNotice (port : PortId) (tag mask lineMode reminder : Byte)
  | setFilter (port : PortId) (tag laneMask : Byte) (classMask : BitVec 32) (format : Byte)
  | setAlerts (port : PortId) (tag subscription : Byte)
  | fetch (port : PortId) (tag : Byte)
  | readSeq (port : PortId) (tag : Byte) (seq : Seq) (firstAxle : Byte)
  | seek (port : PortId) (tag target : Byte) (seq : Seq)
  | takeAlert (port : PortId) (tag : Byte)
  | tableSelect (port : PortId) (tag table index stepMode : Byte)
  | tableRead (port : PortId) (tag : Byte)
  | tableWrite (port : PortId) (tag : Byte) (entry : List Byte)
  | commit (port : PortId) (tag : Byte)
  | discard (port : PortId) (tag : Byte)
  | laneMode (port : PortId) (tag lane mode : Byte)
  | laneTest (port : PortId) (tag lane pattern : Byte)
  | channelResume (port : PortId) (tag channel : Byte)
  | setClock (port : PortId) (tag : Byte) (seconds : BitVec 32)
  | restart (port : PortId) (tag : Byte)
  | characterReceived (port : PortId) (byte : Byte) (stopBitGood : Bool)
  | powerLoss
  deriving DecidableEq, Repr

end Sys2Proof
end

