-- ==== Sys2Proof/Config.lean ====
section
/-! DEFINITION. What the spec leaves open: the free values. A free value is an opaque constant: nothing can be proved
of it, so every statement holds whatever it is. -/

namespace Sys2Proof

/-- The outcome of a persist's read-back (R154: 'Read-back equal' or 'Read-back differs') where the sender lets the
800 ms pass without commanding PERSIST_COMPLETE: the spec names both outcomes and gives no rule between them. Applied
to `State.freeIndex`. See notes/assumptions/10.md. -/
opaque Config.freeReadBack : Nat → Bool

end Sys2Proof
end

