-- ==== Sys2Proof/Machine/Operands.lean ====
section
/-! DEFINITION. Numbers: sample-time arithmetic (00_scope.md 5.2), rounding (5.3), interpolation (R49, R62), the byte
coding of fields (R189), the frame check value (R173), and the operand forms of the commands (R189). -/

namespace Sys2Proof.Machine

/-! ### Sample times -/

/-- `a − b` over the shorter interval, modulo 2^32 (00_scope.md 5.2). -/
def timeDiff (a b : Time) : Int := (a - b).toInt

/-- Ticks from `t` to `now`, modulo 2^32 (R30). -/
def elapsed (now t : Time) : Nat := (now - t).toNat

/-- The time `t` is reached at `now`: `now` is `t` or lies after it by the shorter interval (00_scope.md 5.2). -/
def reached (now t : Time) : Bool := decide (0 ≤ timeDiff now t)

/-- A sample time `n` ticks after `t`. -/
def later (t : Time) (n : Nat) : Time := t + BitVec.ofNat 32 n

/-- The distance of two times over the shorter interval, in either direction (R22). -/
def timeGap (a b : Time) : Nat := (timeDiff a b).natAbs

/-! ### Rounding -/

/-- Round half up of a non-negative quotient (00_scope.md 5.3). -/
def roundHalfUp (n d : Nat) : Nat := (2 * n + d) / (2 * d)

/-- Round half away from zero of a signed quotient (00_scope.md 5.3). -/
def roundHalfAway (n : Int) (d : Nat) : Int :=
  if n < 0 then -(roundHalfUp n.natAbs d : Int) else (roundHalfUp n.natAbs d : Int)

/-- The next whole number at or above a quotient (00_scope.md 5.3). -/
def ceilDiv (n d : Nat) : Nat := (n + (d - 1)) / d

/-- Milliseconds in ticks, rounded half up (R75, R110). -/
def msTicks (ms : Nat) : Nat := roundHalfUp (ms * 16384) 1000

/-- Seconds in ticks (R75, R149). -/
def secondTicks (s : Nat) : Nat := s * 16384

/-- Interpolation over points in ascending order (R49, R62): the first factor at or below the first point, the last at
or above the last, and between two points the quotient rounded half away from zero. -/
def interpolate : List (Int × Int) → Int → Int
  | [], _ => 0
  | [(_, f)], _ => f
  | (x0, f0) :: (x1, f1) :: rest, x =>
    if x ≤ x0 then f0
    else if x < x1 then f0 + roundHalfAway ((x - x0) * (f1 - f0)) (x1 - x0).natAbs
    else interpolate ((x1, f1) :: rest) x

/-! ### Fields on the wire -/

/-- A number in `w` bytes, least significant first (R189, 00_scope.md 5.4). -/
def bytesLE : Nat → Nat → List Byte
  | 0, _ => []
  | w + 1, n => BitVec.ofNat 8 n :: bytesLE w (n / 256)

/-- The number that bytes code, least significant first. -/
def numberLE : List Byte → Nat
  | [] => 0
  | b :: bs => b.toNat + 256 * numberLE bs

/-- The fields of the given widths at the head of a run of bytes, in order (R190). -/
def fieldsLE : List Nat → List Byte → List Nat
  | [], _ => []
  | w :: ws, bs => numberLE (bs.take w) :: fieldsLE ws (bs.drop w)

/-- A signed number as its two-byte two's complement code (R189). -/
def signed16 (x : Int) : Nat := (x % 65536).toNat

/-- The signed number that a two-byte two's complement code stands for (R189). -/
def ofSigned16 (n : Nat) : Int := if n < 32768 then n else (n : Int) - 65536

/-- Yes or no, on or off, set or clear, in one byte (R189). -/
def boolByte (b : Bool) : List Byte := [if b then 1 else 0]

/-- A choice code in one byte (R189). -/
def choiceByte (n : Nat) : List Byte := [BitVec.ofNat 8 n]

/-- An optional number whose range leaves all ones unused: absent as all ones (R189). -/
def optLE (w : Nat) : Option Nat → List Byte
  | some n => bytesLE w n
  | none => bytesLE w (256 ^ w - 1)

/-! ### The frame check value -/

/-- One bit of the CRC-16 with polynomial 1021h, most significant bit first (R173). -/
def crcShift (c : BitVec 16) : BitVec 16 := if c.msb then (c <<< 1) ^^^ 0x1021#16 else c <<< 1

/-- One byte of the CRC (R173). -/
def crcByte (c : BitVec 16) (b : Byte) : BitVec 16 :=
  crcShift (crcShift (crcShift (crcShift (crcShift (crcShift (crcShift (crcShift
    (c ^^^ (b.zeroExtend 16 <<< 8)))))))))

/-- The check value of a run of bytes: initial value FFFFh, no final value (R173). -/
def crc16 (bs : List Byte) : BitVec 16 := bs.foldl crcByte 0xFFFF#16

/-- The two check bytes, high byte first (R173). -/
def crcBytes (bs : List Byte) : List Byte := [((crc16 bs) >>> 8).setWidth 8, (crc16 bs).setWidth 8]

/-! ### Operand forms of the commands (R189) -/

/-- A lane number 1..4. -/
def laneOfNumber : Nat → Option Lane
  | 1 => some .one
  | 2 => some .two
  | 3 => some .three
  | 4 => some .four
  | _ => none

/-- The number 1..4 of a lane or probe. -/
def laneNumber : Lane → Nat
  | .one => 1
  | .two => 2
  | .three => 3
  | .four => 4

/-- An index 0..3 into a four-entry table. -/
def ix4OfIndex : Nat → Option Ix4
  | 0 => some .one
  | 1 => some .two
  | 2 => some .three
  | 3 => some .four
  | _ => none

/-- A channel index 0..15: four times the lane number less one, plus 2 for row B, plus 1 for LEFT (00_scope.md 4.2). -/
def channelOfIndex (n : Nat) : Option ChannelId :=
  (ix4OfIndex (n / 4)).map fun l => ⟨l, if n % 4 < 2 then .a else .b, if n % 2 = 0 then .right else .left⟩

/-- The index 0..15 of a channel (00_scope.md 4.2). -/
def channelIndex (c : ChannelId) : Nat :=
  4 * (laneNumber c.lane - 1) + (match c.row with | .a => 0 | .b => 2) + (match c.half with | .right => 0 | .left => 1)

/-- The bits of a port's rate each second (R170). -/
def bitRate : Rate → Nat
  | .b115200 => 115200
  | .b460800 => 460800
  | .b921600 => 921600
  | .b1843200 => 1843200

/-- Ticks that `n` characters of ten bits take, back to back, at a rate: the tick at which the last one has been sent
(R171; DEDUCED rounding up, notes/assumptions/11.md). -/
def characterTicks (rate : Rate) (n : Nat) : Nat := ceilDiv (n * 10 * 16384) (bitRate rate)

end Sys2Proof.Machine
end

