-- ==== Sys2Proof/Machine/Calibration.lean ====
section
/-! DEFINITION. The calibration set (R136 to R141), its built-in defaults, the quantities computed from it (R6, R28), its
validation (R150), and the coding and clamping of table entries (R145, R190). -/

namespace Sys2Proof.Machine

/-! ### The tables -/

/-- An active level (R73, R110). -/
inductive Polarity where
  | activeHigh | activeLow
  deriving DecidableEq, Repr

/-- Where a lane's temperature comes from (R46). -/
inductive SourceKind where
  | probe | mean | fixed
  deriving DecidableEq, Repr

/-- How the temperature table is read (R49, R50). -/
inductive TempMode where
  | interp | step
  deriving DecidableEq, Repr

/-- The SITE entry (R137). -/
structure SiteEntry where
  wp             : Nat
  vMin           : Nat
  vMax           : Nat
  splitDistance  : Nat
  closeDelay     : Nat
  maxDuration    : Nat
  groupDistance  : Nat
  tolerance      : Nat
  speedVariation : Nat
  maxHit         : Nat
  filterShift    : Nat
  staleLimit     : Nat
  commitTimeout  : Nat
  triggerWidth   : Nat
  deriving DecidableEq, Repr

/-- A LANE entry (R138). -/
structure LaneEntry where
  spacing          : Nat
  presencePolarity : Polarity
  triggerPolarity  : Polarity
  kind             : SourceKind
  probeP           : ProbeId
  probeQ           : ProbeId
  alternate        : Option ProbeId
  fallback         : Int
  deriving DecidableEq, Repr

/-- A CHANNEL entry (R139). -/
structure ChannelEntry where
  enabled : Bool
  gain    : Nat
  coarse  : Nat
  fine    : Nat
  deriving DecidableEq, Repr

/-- A TEMP point (R140). -/
structure TempPoint where
  temp   : Int
  factor : Nat
  deriving DecidableEq, Repr

/-- The TEMP controls entry (R140). -/
structure TempControls where
  mode       : TempMode
  hysteresis : Nat
  rate       : Nat
  jumpUp     : Bool
  jumpDown   : Bool
  deriving DecidableEq, Repr

/-- A SPEED point (R140). -/
structure SpeedPoint where
  speed  : Nat
  factor : Nat
  deriving DecidableEq, Repr

/-- A CLASS entry (R98). A spacing rule is absent or a pair (min, max). -/
structure ClassEntry where
  enabled  : Bool
  code     : Nat
  countMin : Nat
  countMax : Nat
  rules    : Vector (Option (Nat × Nat)) 8
  grossMin : Option Nat
  grossMax : Option Nat
  profile  : Nat
  deriving DecidableEq, Repr

/-- A PROFILE entry (R104); a limit of 0 means no limit. -/
structure ProfileEntry where
  single : Nat
  tandem : Nat
  tridem : Nat
  gross  : Nat
  deriving DecidableEq, Repr

/-- A TESTPAT entry (R141). -/
structure TestPattern where
  enabled   : Bool
  axleCount : Nat
  spacings  : Vector Nat 7
  speed     : Nat
  amplitude : Nat
  deriving DecidableEq, Repr

/-- A calibration set: the nine tables (R136). The revision stands beside the active set and the stored set. -/
structure CalSet where
  site     : SiteEntry
  lanes    : Quad LaneEntry
  channels : PerChannel ChannelEntry
  probes   : Quad Bool
  temp     : Vector TempPoint 8
  control  : TempControls
  speed    : Vector SpeedPoint 8
  classes  : Vector ClassEntry 32
  profiles : Vector ProfileEntry 16
  patterns : Quad TestPattern
  deriving DecidableEq, Repr

/-- A calibration table (R136). -/
inductive TableId where
  | site | lane | channel | probe | temp | speed | cls | profile | testpat
  deriving DecidableEq, Repr

/-! ### Built-in defaults -/

def defaultSite : SiteEntry where
  wp := 328
  vMin := 1000
  vMax := 60000
  splitDistance := 1200
  closeDelay := 300
  maxDuration := 20
  groupDistance := 200
  tolerance := 50
  speedVariation := 100
  maxHit := 4096
  filterShift := 4
  staleLimit := 600
  commitTimeout := 10
  triggerWidth := 20

def defaultLane (l : Lane) : LaneEntry where
  spacing := 3000
  presencePolarity := .activeHigh
  triggerPolarity := .activeHigh
  kind := .probe
  probeP := l
  probeQ := l
  alternate := none
  fallback := 320

def defaultChannel : ChannelEntry := ⟨true, 4096, 1, 0⟩

def defaultTemp : Vector TempPoint 8 :=
  #v[⟨-480, 16384⟩, ⟨-160, 16384⟩, ⟨0, 16384⟩, ⟨160, 16384⟩, ⟨320, 16384⟩, ⟨480, 16384⟩, ⟨720, 16384⟩, ⟨960, 16384⟩]

def defaultControls : TempControls := ⟨.interp, 16, 64, false, false⟩

def defaultSpeed : Vector SpeedPoint 8 :=
  #v[⟨2000, 16384⟩, ⟨5000, 16384⟩, ⟨10000, 16384⟩, ⟨15000, 16384⟩, ⟨20000, 16384⟩, ⟨25000, 16384⟩, ⟨30000, 16384⟩,
     ⟨40000, 16384⟩]

def defaultClass : ClassEntry := ⟨false, 1, 1, 16, Vector.replicate 8 none, none, none, 0⟩

def defaultProfile : ProfileEntry := ⟨0, 0, 0, 0⟩

/-- Pattern 0 is enabled, patterns 1 to 3 are not (R141). -/
def defaultPattern (i : Ix4) : TestPattern := ⟨i = .one, 2, Vector.replicate 7 300, 10000, 256⟩

/-- The built-in defaults, the set of revision 0 (R136 to R141). -/
def builtIn : CalSet where
  site := defaultSite
  lanes := Quad.of defaultLane
  channels := Quad.ofChan fun _ => defaultChannel
  probes := Quad.all true
  temp := defaultTemp
  control := defaultControls
  speed := defaultSpeed
  classes := Vector.replicate 32 defaultClass
  profiles := Vector.replicate 16 defaultProfile
  patterns := Quad.of defaultPattern

/-! ### Quantities computed from the set -/

/-- The start threshold Th (R6). -/
def startThreshold (e : ChannelEntry) : Int :=
  (match e.coarse with | 0 => 24 | 1 => 48 | 2 => 96 | _ => 192) + 2 * (e.fine : Int)

/-- The end level Th_end (R6). -/
def endLevel (e : ChannelEntry) : Int := startThreshold e / 2

/-- A lane's transit window in ticks (R28). -/
structure Window where
  dtMin : Nat
  dtMax : Nat
  deriving DecidableEq, Repr

/-- The transit window of a row spacing under a SITE entry (R28). -/
def transitWindow (site : SiteEntry) (spacing : Nat) : Window :=
  ⟨ceilDiv (spacing * 16384) site.vMax, spacing * 16384 / site.vMin⟩

/-- Every lane's transit window (R28). -/
def transitWindows (set : CalSet) : Quad Window := Quad.of fun l => transitWindow set.site (set.lanes.get l).spacing

/-- The temperature points as pairs for interpolation (R49). -/
def tempPoints (set : CalSet) : List (Int × Int) := set.temp.toList.map fun p => (p.temp, (p.factor : Int))

/-- The speed points as pairs for interpolation (R62). -/
def speedPoints (set : CalSet) : List (Int × Int) := set.speed.toList.map fun p => ((p.speed : Int), (p.factor : Int))

/-! ### Validation at commit (R150) -/

/-- The index of the first entry not above the one before it, counting the second as 1. -/
def firstNotAbove : Nat → List Int → Option Nat
  | i, x :: y :: rest => if x < y then firstNotAbove (i + 1) (y :: rest) else some i
  | _, _ => none

/-- The first check of R150 that the set fails, with the table and index it names. -/
def validationFailure (set : CalSet) : Option (TableId × Nat) :=
  if ¬ set.site.vMin < set.site.vMax then some (.site, 0)
  else match firstNotAbove 1 (set.temp.toList.map (·.temp)) with
  | some i => some (.temp, i)
  | none =>
  match firstNotAbove 1 (set.speed.toList.map fun p => (p.speed : Int)) with
  | some i => some (.speed, i)
  | none =>
  match set.classes.toList.findIdx? (fun e => decide (e.countMax < e.countMin)) with
  | some i => some (.cls, i)
  | none =>
  match (transitWindows set).toList.findIdx? (fun w => decide (w.dtMax < w.dtMin)) with
  | some i => some (.lane, i)
  | none => none

/-! ### Table addressing (R136, R142) -/

/-- The entries of a table (R136). -/
def entryCount : TableId → Nat
  | .site => 1
  | .lane => 4
  | .channel => 16
  | .probe => 4
  | .temp => 9
  | .speed => 8
  | .cls => 32
  | .profile => 16
  | .testpat => 4

/-- The code of a table (R189). -/
def tableCode : TableId → Nat
  | .site => 0
  | .lane => 1
  | .channel => 2
  | .probe => 3
  | .temp => 4
  | .speed => 5
  | .cls => 6
  | .profile => 7
  | .testpat => 8

/-- The table that a code names (R189). -/
def tableOfCode : Nat → Option TableId
  | 0 => some .site
  | 1 => some .lane
  | 2 => some .channel
  | 3 => some .probe
  | 4 => some .temp
  | 5 => some .speed
  | 6 => some .cls
  | 7 => some .profile
  | 8 => some .testpat
  | _ => none

/-- The widths of an entry's fields, in order (11.4); TEMP index 8 is the controls entry (R190). -/
def entryWidths (t : TableId) (index : Nat) : List Nat :=
  match t with
  | .site => [2, 2, 2, 2, 2, 1, 2, 1, 2, 2, 1, 2, 1, 1]
  | .lane => [2, 1, 1, 1, 1, 1, 1, 2]
  | .channel => [1, 2, 1, 1]
  | .probe => [1]
  | .temp => if index = 8 then [1, 1, 2, 1, 1] else [2, 2]
  | .speed => [2, 2]
  | .cls => [1, 1, 1, 1] ++ List.replicate 16 2 ++ [4, 4, 1]
  | .profile => [4, 4, 4, 4]
  | .testpat => [1, 1] ++ List.replicate 7 2 ++ [2, 2]

/-- The length of an entry in bytes (11.4). -/
def entryLength (t : TableId) (index : Nat) : Nat := (entryWidths t index).sum

/-! ### Clamping (R145): a field's stored value with whether it was clamped -/

/-- A number with a range. -/
def clampNat (lo hi v : Nat) : Nat × Bool := if v < lo then (lo, true) else if hi < v then (hi, true) else (v, false)

/-- A signed number with a range. -/
def clampInt (lo hi v : Int) : Int × Bool := if v < lo then (lo, true) else if hi < v then (hi, true) else (v, false)

/-- A choice field: a code that names no value is written as the built-in default. -/
def clampChoice {α : Type} (values : List α) (default : α) (v : Nat) : α × Bool :=
  match values[v]? with
  | some a => (a, false)
  | none => (default, true)

/-- A yes-or-no field. -/
def clampBool (default : Bool) (v : Nat) : Bool × Bool := clampChoice [false, true] default v

/-- A number or absent: the absent coding is stored as absent, not clamped. -/
def clampOpt (absent lo hi v : Nat) : Option Nat × Bool :=
  if v = absent then (none, false) else ((clampNat lo hi v).map some id)

/-- A probe number 1..4. -/
def clampProbe (v : Nat) : ProbeId × Bool :=
  ((laneOfNumber (clampNat 1 4 v).1).getD .one, (clampNat 1 4 v).2)

/-- The positions, counted from 1, of the fields that were clamped (R190). -/
def clampedPositions (marks : List Bool) : List Nat :=
  (marks.zipIdx 1).filterMap fun (m, i) => if m then some i else none

/-! ### Reading an entry from its raw fields (R190) -/

/-- A SITE entry. -/
def readSite (f : List Nat) : SiteEntry × List Bool :=
  let r (i lo hi : Nat) := clampNat lo hi (f.getD i 0)
  (⟨(r 0 16 1024).1, (r 1 1000 60000).1, (r 2 1000 60000).1, (r 3 300 2000).1, (r 4 50 2000).1, (r 5 2 60).1,
    (r 6 80 300).1, (r 7 0 250).1, (r 8 10 500).1, (r 9 1024 8192).1, (r 10 0 7).1, (r 11 10 3600).1, (r 12 1 60).1,
    (r 13 1 255).1⟩,
   [(r 0 16 1024).2, (r 1 1000 60000).2, (r 2 1000 60000).2, (r 3 300 2000).2, (r 4 50 2000).2, (r 5 2 60).2,
    (r 6 80 300).2, (r 7 0 250).2, (r 8 10 500).2, (r 9 1024 8192).2, (r 10 0 7).2, (r 11 10 3600).2, (r 12 1 60).2,
    (r 13 1 255).2])

/-- A LANE entry of a lane. The alternate probe's absent coding is FFh. -/
def readLane (f : List Nat) : LaneEntry × List Bool :=
  let d := clampNat 500 6000 (f.getD 0 0)
  let pp := clampChoice [Polarity.activeHigh, .activeLow] .activeHigh (f.getD 1 0)
  let tp := clampChoice [Polarity.activeHigh, .activeLow] .activeHigh (f.getD 2 0)
  let k := clampChoice [SourceKind.probe, .mean, .fixed] .probe (f.getD 3 0)
  let p := clampProbe (f.getD 4 0)
  let q := clampProbe (f.getD 5 0)
  let alt : Option ProbeId × Bool :=
    if f.getD 6 0 = 0xFF then (none, false) else (some (clampProbe (f.getD 6 0)).1, (clampProbe (f.getD 6 0)).2)
  let fb := clampInt (-640) 1360 (ofSigned16 (f.getD 7 0))
  (⟨d.1, pp.1, tp.1, k.1, p.1, q.1, alt.1, fb.1⟩, [d.2, pp.2, tp.2, k.2, p.2, q.2, alt.2, fb.2])

/-- A CHANNEL entry. -/
def readChannel (f : List Nat) : ChannelEntry × List Bool :=
  let e := clampBool true (f.getD 0 0)
  let g := clampNat 1024 16383 (f.getD 1 0)
  let c := clampNat 0 3 (f.getD 2 0)
  let n := clampNat 0 15 (f.getD 3 0)
  (⟨e.1, g.1, c.1, n.1⟩, [e.2, g.2, c.2, n.2])

/-- A PROBE entry. -/
def readProbe (f : List Nat) : Bool × List Bool :=
  let e := clampBool true (f.getD 0 0)
  (e.1, [e.2])

/-- A TEMP point. -/
def readTempPoint (f : List Nat) : TempPoint × List Bool :=
  let t := clampInt (-640) 1360 (ofSigned16 (f.getD 0 0))
  let v := clampNat 8192 32767 (f.getD 1 0)
  (⟨t.1, v.1⟩, [t.2, v.2])

/-- The TEMP controls entry. -/
def readControls (f : List Nat) : TempControls × List Bool :=
  let m := clampChoice [TempMode.interp, .step] .interp (f.getD 0 0)
  let h := clampNat 0 160 (f.getD 1 0)
  let r := clampNat 1 4096 (f.getD 2 0)
  let u := clampBool false (f.getD 3 0)
  let d := clampBool false (f.getD 4 0)
  (⟨m.1, h.1, r.1, u.1, d.1⟩, [m.2, h.2, r.2, u.2, d.2])

/-- A SPEED point. -/
def readSpeedPoint (f : List Nat) : SpeedPoint × List Bool :=
  let s := clampNat 1000 60000 (f.getD 0 0)
  let v := clampNat 8192 32767 (f.getD 1 0)
  (⟨s.1, v.1⟩, [s.2, v.2])

/-- Spacing rule `j` (from 0) of a CLASS entry: present when both its bounds are (R190). -/
def readRule (f : List Nat) (j : Nat) : Option (Nat × Nat) × List Bool :=
  let lo := clampOpt 0xFFFF 0 2000 (f.getD (4 + 2 * j) 0)
  let hi := clampOpt 0xFFFF 0 2000 (f.getD (5 + 2 * j) 0)
  (match lo.1, hi.1 with
   | some a, some b => some (a, b)
   | _, _ => none,
   [lo.2, hi.2])

/-- A CLASS entry. -/
def readClass (f : List Nat) : ClassEntry × List Bool :=
  let e := clampBool false (f.getD 0 0)
  let c := clampNat 1 31 (f.getD 1 0)
  let lo := clampNat 1 16 (f.getD 2 0)
  let hi := clampNat 1 16 (f.getD 3 0)
  let r (j : Nat) := readRule f j
  let gl := clampOpt 0xFFFFFFFF 0 1048575 (f.getD 20 0)
  let gh := clampOpt 0xFFFFFFFF 0 1048575 (f.getD 21 0)
  let p := clampNat 0 15 (f.getD 22 0)
  (⟨e.1, c.1, lo.1, hi.1, #v[(r 0).1, (r 1).1, (r 2).1, (r 3).1, (r 4).1, (r 5).1, (r 6).1, (r 7).1], gl.1, gh.1, p.1⟩,
   [e.2, c.2, lo.2, hi.2] ++ (List.range 8).flatMap (fun j => (r j).2) ++ [gl.2, gh.2, p.2])

/-- A PROFILE entry. -/
def readProfile (f : List Nat) : ProfileEntry × List Bool :=
  let r (i : Nat) := clampNat 0 1048575 (f.getD i 0)
  (⟨(r 0).1, (r 1).1, (r 2).1, (r 3).1⟩, [(r 0).2, (r 1).2, (r 2).2, (r 3).2])

/-- A TESTPAT entry of pattern `i`; its speed is clamped to the pending SITE entry's band, or to 1,000..60,000 where
that band's ends are not in order (R145). -/
def readPattern (site : SiteEntry) (i : Ix4) (f : List Nat) : TestPattern × List Bool :=
  let e := clampBool (defaultPattern i).enabled (f.getD 0 0)
  let n := clampNat 2 8 (f.getD 1 0)
  let s (j : Nat) := clampNat 100 2000 (f.getD (2 + j) 0)
  let v := if site.vMin < site.vMax then clampNat site.vMin site.vMax (f.getD 9 0) else clampNat 1000 60000 (f.getD 9 0)
  let a := clampNat 64 1024 (f.getD 10 0)
  (⟨e.1, n.1, #v[(s 0).1, (s 1).1, (s 2).1, (s 3).1, (s 4).1, (s 5).1, (s 6).1], v.1, a.1⟩,
   [e.2, n.2] ++ (List.range 7).map (fun j => (s j).2) ++ [v.2, a.2])

/-- Store the entry carried by a TABLE_WRITE into a set: the set after and the positions that were clamped
(R144, R145, R190). -/
def storeEntry (set : CalSet) (t : TableId) (index : Nat) (entry : List Byte) : CalSet × List Nat :=
  let f := fieldsLE (entryWidths t index) entry
  let i4 := (ix4OfIndex index).getD .one
  match t with
  | .site => ({ set with site := (readSite f).1 }, clampedPositions (readSite f).2)
  | .lane => ({ set with lanes := set.lanes.set i4 (readLane f).1 }, clampedPositions (readLane f).2)
  | .channel =>
    ({ set with channels := set.channels.setChan ((channelOfIndex index).getD ⟨.one, .a, .right⟩) (readChannel f).1 },
     clampedPositions (readChannel f).2)
  | .probe => ({ set with probes := set.probes.set i4 (readProbe f).1 }, clampedPositions (readProbe f).2)
  | .temp =>
    if index = 8 then ({ set with control := (readControls f).1 }, clampedPositions (readControls f).2)
    else ({ set with temp := set.temp.setIfInBounds index (readTempPoint f).1 }, clampedPositions (readTempPoint f).2)
  | .speed =>
    ({ set with speed := set.speed.setIfInBounds index (readSpeedPoint f).1 }, clampedPositions (readSpeedPoint f).2)
  | .cls =>
    ({ set with classes := set.classes.setIfInBounds index (readClass f).1 }, clampedPositions (readClass f).2)
  | .profile =>
    ({ set with profiles := set.profiles.setIfInBounds index (readProfile f).1 }, clampedPositions (readProfile f).2)
  | .testpat =>
    ({ set with patterns := set.patterns.set i4 (readPattern set.site i4 f).1 },
     clampedPositions (readPattern set.site i4 f).2)

/-! ### Coding an entry (R189, R190) -/

def polarityCode : Polarity → Nat
  | .activeHigh => 0
  | .activeLow => 1

def sourceCode : SourceKind → Nat
  | .probe => 0
  | .mean => 1
  | .fixed => 2

def tempModeCode : TempMode → Nat
  | .interp => 0
  | .step => 1

def boolCode (b : Bool) : Nat := if b then 1 else 0

/-- The two bounds of a spacing rule, both all ones when it is absent (R190). -/
def ruleFields : Option (Nat × Nat) → List Nat
  | some (lo, hi) => [lo, hi]
  | none => [0xFFFF, 0xFFFF]

/-- The raw field values of an entry, in the order of 11.4. -/
def entryFields (set : CalSet) (t : TableId) (index : Nat) : List Nat :=
  let i4 := (ix4OfIndex index).getD .one
  match t with
  | .site =>
    let e := set.site
    [e.wp, e.vMin, e.vMax, e.splitDistance, e.closeDelay, e.maxDuration, e.groupDistance, e.tolerance,
     e.speedVariation, e.maxHit, e.filterShift, e.staleLimit, e.commitTimeout, e.triggerWidth]
  | .lane =>
    let e := set.lanes.get i4
    [e.spacing, polarityCode e.presencePolarity, polarityCode e.triggerPolarity, sourceCode e.kind,
     laneNumber e.probeP, laneNumber e.probeQ, (e.alternate.map laneNumber).getD 0xFF, signed16 e.fallback]
  | .channel =>
    let e := set.channels.chan ((channelOfIndex index).getD ⟨.one, .a, .right⟩)
    [boolCode e.enabled, e.gain, e.coarse, e.fine]
  | .probe => [boolCode (set.probes.get i4)]
  | .temp =>
    if index = 8 then
      let e := set.control
      [tempModeCode e.mode, e.hysteresis, e.rate, boolCode e.jumpUp, boolCode e.jumpDown]
    else
      let e := set.temp.toList.getD index ⟨0, 0⟩
      [signed16 e.temp, e.factor]
  | .speed =>
    let e := set.speed.toList.getD index ⟨0, 0⟩
    [e.speed, e.factor]
  | .cls =>
    let e := set.classes.toList.getD index defaultClass
    [boolCode e.enabled, e.code, e.countMin, e.countMax] ++ e.rules.toList.flatMap ruleFields ++
      [e.grossMin.getD 0xFFFFFFFF, e.grossMax.getD 0xFFFFFFFF, e.profile]
  | .profile =>
    let e := set.profiles.toList.getD index defaultProfile
    [e.single, e.tandem, e.tridem, e.gross]
  | .testpat =>
    let e := set.patterns.get i4
    [boolCode e.enabled, e.axleCount] ++ e.spacings.toList ++ [e.speed, e.amplitude]

/-- An entry as its bytes (11.4). -/
def encodeEntry (set : CalSet) (t : TableId) (index : Nat) : List Byte :=
  ((entryWidths t index).zip (entryFields set t index)).flatMap fun (w, n) => bytesLE w n

end Sys2Proof.Machine
end

