-- ==== Sys2Proof/Machine/Flags.lean ====
section
/-! DEFINITION. Flag positions: the record and axle flags of 11.3 and the notice flags of R189. -/

namespace Sys2Proof.Machine

/-- A set of record flags, in the bit positions of 11.3. The axle flags are bits 0 to 9. -/
abbrev Flags := BitVec 18

/-- A set of notice flags, in the bit positions of R189. -/
abbrev NoticeSet := BitVec 5

namespace Flag

def oneSided : Flags := 0x00001#18
def straddle : Flags := 0x00002#18
def singleRow : Flags := 0x00004#18
def channelHeld : Flags := 0x00008#18
def channelSuspect : Flags := 0x00010#18
def test : Flags := 0x00020#18
def speedOutOfBand : Flags := 0x00040#18
def tempSubstituted : Flags := 0x00080#18
def loadSat : Flags := 0x00100#18
def areaSat : Flags := 0x00200#18
def speedVariation : Flags := 0x00400#18
def noPresence : Flags := 0x00800#18
def uncalibrated : Flags := 0x01000#18
def calChanged : Flags := 0x02000#18
def continuation : Flags := 0x04000#18
def truncated : Flags := 0x08000#18
def timeout : Flags := 0x10000#18
def interrupted : Flags := 0x20000#18

end Flag

/-- The flag if the condition holds, else the empty set. -/
def flagIf (b : Bool) (f : Flags) : Flags := if b then f else 0

/-- The union of the flags of a list of sets. -/
def flagUnion (fs : List Flags) : Flags := fs.foldl (· ||| ·) 0

/-- Every flag a record can carry is a quality flag (R108). -/
def hasQualityFlag (f : Flags) : Bool := f != 0

/-- The record flags as their 32-bit field (11.2). -/
def recordFlagBits (f : Flags) : Nat := f.toNat

/-- The axle flags field: bits 0 to 9 alone (11.3). -/
def axleFlagBits (f : Flags) : Nat := f.toNat % 1024

namespace Notice

def fault : NoticeSet := 0x01#5
def alert : NoticeSet := 0x02#5
def lost : NoticeSet := 0x04#5
def maint : NoticeSet := 0x08#5
def newRecord : NoticeSet := 0x10#5

end Notice

/-- The highest pending cause as a bit position, in the order FAULT, ALERT, LOST, MAINT, NEW_RECORD (R182). -/
def highestCause (f : NoticeSet) : Option Nat := [0, 1, 2, 3, 4].find? fun i => f.getLsbD i

end Sys2Proof.Machine
end

