-- ==== Sys2Proof/Machine/Blocks.lean ====
section
/-! DEFINITION. The state each block of the device owns (00_scope.md 3.1). Parts are named as the spec names them; a part
marked 'the model's own' is no part of the spec's and has an entry in the assumption log. -/

namespace Sys2Proof.Machine

/-! ### Clock and pins -/

/-- A site-clock timestamp: seconds and tick within the second (00_scope.md 5.2). -/
structure Stamp where
  seconds : BitVec 32
  tick    : Nat
  deriving DecidableEq, Repr

/-- The sample counter and the site clock (R1, R2). -/
structure Clock where
  /-- The sample counter: the sample time of the present tick. -/
  now : Time
  seconds : BitVec 32
  /-- The tick within the second, 0..16,383. -/
  tick : Nat
  /-- The model's own: the tick has wrapped and SITE_SECOND has not yet been taken (notes/assumptions/7.md). -/
  secondDue : Bool
  /-- The first sample tick after power-on has been taken (R1). -/
  started : Bool
  deriving DecidableEq, Repr

/-- The input levels as last read. -/
structure Pins where
  /-- The level of each presence input, true for high (R73). -/
  presence : Quad Bool
  /-- What each probe's converter reports, none for a fault (R41). -/
  probes : Quad (Option Int)
  /-- The restart input's last reading, true for high (R186). -/
  restartHigh : Bool
  /-- The model's own: the restart input has read low after high and RESTART_INPUT has not yet been taken. -/
  restartEdge : Bool
  deriving DecidableEq, Repr

/-! ### Strip Front End -/

/-- A channel's state (1.3). -/
inductive ChannelState where
  | off | settling | idle | inHit | held
  deriving DecidableEq, Repr

/-- A channel's health status (R17). -/
inductive Health where
  | good | suspect | untested
  deriving DecidableEq, Repr

/-- A channel context (1.2). -/
structure Channel where
  state      : ChannelState
  /-- B, in 1/16 count. -/
  baseline   : Nat
  seeded     : Bool
  settling   : Nat
  tStart     : Time
  tLast      : Time
  area       : Nat
  saturated  : Bool
  quietRun   : Nat
  quietArea  : Nat
  quietSat   : Bool
  /-- The model's own: the hit's last sample found the max hit duration exceeded (R8, notes/assumptions/22.md). -/
  overLong   : Bool
  hold       : Nat
  health     : Health
  /-- The last test ratio in ‰. -/
  ratio      : Option Nat
  deriving DecidableEq, Repr

/-- The state of the Strip Front End. -/
structure Sfe where
  channels    : PerChannel Channel
  noise       : Quad Count
  heldEntries : Quad Count
  deriving DecidableEq, Repr

/-! ### Crossing Former -/

/-- A hit in a half-hit pool: the fields of R10 and the three parts of R20. -/
structure PoolHit where
  channel  : ChannelId
  time     : Time
  area     : Nat
  areaSat  : Bool
  suspect  : Bool
  receipt  : Time
  window   : Nat
  deadline : Time
  deriving DecidableEq, Repr

/-- A wheel of a crossing, taken from its hit (R27). -/
structure Wheel where
  channel : ChannelId
  area    : Nat
  areaSat : Bool
  suspect : Bool
  deriving DecidableEq, Repr

/-- A crossing (R27). -/
structure Crossing where
  lane        : Lane
  row         : Row
  time        : Time
  right       : Option Wheel
  left        : Option Wheel
  straddle    : Bool
  oneSided    : Bool
  channelHeld : Bool
  test        : Bool
  deriving DecidableEq, Repr

/-- The state of the Crossing Former. -/
structure Xf where
  pools   : Quad (Rows (List PoolHit))
  queues  : Quad (List Crossing)
  windows : Quad Window
  orphanA : Quad Count
  orphanB : Quad Count
  deriving DecidableEq, Repr

/-! ### Pavement Temperature Unit -/

/-- A probe's state (3.1). -/
inductive ProbeState where
  | off | stale | holding | valid
  deriving DecidableEq, Repr

/-- A probe context. -/
structure Probe where
  state    : ProbeState
  /-- The filtered value Tf. -/
  filtered : Option Int
  rejected : Nat
  reported : Bool
  deriving DecidableEq, Repr

/-- A lane temperature context. -/
structure LaneTemp where
  temp        : Int
  substituted : Bool
  /-- The STEP segment s, 1..8. -/
  segment     : Nat
  target      : Nat
  applied     : Nat
  deriving DecidableEq, Repr

/-- The state of the Pavement Temperature Unit. -/
structure Ptu where
  probes : Quad Probe
  lanes  : Quad LaneTemp
  deriving DecidableEq, Repr

/-! ### Vehicle Assembler -/

/-- An axle as the Load Computer hands it on (R71), with the spacing the Vehicle Assembler adds (5.2). -/
structure Axle where
  time      : Time
  speed     : Nat
  spacing   : Option Nat
  right     : Option Nat
  left      : Option Nat
  load      : Nat
  flags     : Flags
  /-- The row wheels of the RIGHT side, row A first (R33). -/
  rightRows : List Wheel
  leftRows  : List Wheel
  deriving DecidableEq, Repr

/-- A lane context's state (5.2). -/
inductive ContextState where
  | empty | opened | closing
  deriving DecidableEq, Repr

/-- A lane vehicle context (5.2). -/
structure Context where
  state        : ContextState
  openTick     : Time
  openTime     : Stamp
  presenceSeen : Bool
  /-- Successor-pending with its sample time and timestamp. -/
  successor    : Option (Time × Stamp)
  closeExpiry  : Option Time
  axles        : List Axle
  /-- T and Ft at first axle. -/
  firstTemp    : Option (Int × Nat)
  channelHeld  : Bool
  calChanged   : Bool
  continuation : Bool
  deriving DecidableEq, Repr

/-- The state of the Vehicle Assembler. -/
structure Va where
  contexts : Quad Context
  /-- The occupancy state: the occupancy start of an occupied lane (R73). -/
  occupied : Quad (Option Time)
  ghosts   : Quad Count
  deriving DecidableEq, Repr

/-! ### Class and Limit Evaluator -/

/-- The state of the Class and Limit Evaluator: a trigger is IDLE (none) or PULSING with its pulse end time (R110). -/
structure Cle where
  triggers : Quad (Option Time)
  counts   : Quad Count
  deriving DecidableEq, Repr

/-! ### Record Ring -/

/-- An alert kind (R108). -/
inductive AlertKind where
  | none | advisory | enforceable
  deriving DecidableEq, Repr

/-- A check's kind (R105). -/
inductive CheckKind where
  | single | tandem | tridem | gross
  deriving DecidableEq, Repr

/-- The worst exceeded check: its excess in ‰, its kind and its start index, absent for GROSS (R107). -/
structure Worst where
  excess : Nat
  kind   : CheckKind
  index  : Option Nat
  deriving DecidableEq, Repr

/-- An axle entry of a record: an axle without its row wheels (R118). -/
structure AxleEntry where
  time    : Time
  speed   : Nat
  spacing : Option Nat
  right   : Option Nat
  left    : Option Nat
  load    : Nat
  flags   : Flags
  deriving DecidableEq, Repr

/-- A record (R118). -/
structure Record where
  seq        : Seq
  lane       : Lane
  openTime   : Stamp
  closeTime  : Stamp
  axleCount  : Nat
  speed      : Nat
  gross      : Nat
  code       : Nat
  profile    : Nat
  groupCount : Nat
  alert      : AlertKind
  worst      : Option Worst
  firstTemp  : Int
  firstFt    : Nat
  revision   : BitVec 32
  flags      : Flags
  axles      : List AxleEntry
  deriving DecidableEq, Repr

/-- An alert entry (R122). -/
structure AlertEntry where
  seq       : Seq
  lane      : Lane
  code      : Nat
  alert     : AlertKind
  worst     : Option Worst
  closeTime : Stamp
  deriving DecidableEq, Repr

/-- A record format (R126). -/
inductive Format where
  | full | summary
  deriving DecidableEq, Repr

/-- An alert subscription (R122). -/
inductive Subscription where
  | off | enforceableOnly | all
  deriving DecidableEq, Repr

/-- What the Record Ring holds for one port (Chapter 7). -/
structure RingPort where
  cursor       : Seq
  laneMask     : BitVec 4
  classMask    : BitVec 32
  format       : Format
  subscription : Subscription
  /-- The alert queue, head first. -/
  alerts       : List AlertEntry
  recordLoss   : Count
  alertLoss    : Count
  deriving DecidableEq, Repr

/-- The state of the Record Ring. The count of R117 is the length of `ring`. -/
structure Rr where
  /-- The records held, oldest first. -/
  ring      : List Record
  next      : Seq
  committed : Quad Count
  ports     : Tri RingPort
  deriving DecidableEq, Repr

/-! ### Calibration Controller -/

/-- The store state (R154). -/
inductive StoreState where
  | valid | failed | blank
  deriving DecidableEq, Repr

/-- The on-chip store (8.5). The check value is held as whether it agrees with the stored set and revision
(notes/assumptions/17.md). -/
structure Store where
  mark        : Bool
  set         : CalSet
  revision    : BitVec 32
  checkAgrees : Bool
  deriving DecidableEq, Repr

/-- The state of the Calibration Controller (Chapter 8). -/
structure Cc where
  active         : CalSet
  revision       : BitVec 32
  /-- The pending set. -/
  edits          : CalSet
  claim          : Option PortId
  claimExpiry    : Option Time
  /-- The commit state is COMMIT_WAIT. -/
  waiting        : Bool
  commitExpiry   : Option Time
  /-- The model's own: the moment of R151 has come and ACTIVATION has not yet been taken (notes/assumptions/6.md). -/
  activationDue  : Bool
  /-- The model's own: a commit was accepted at this tick with every context EMPTY, and its activation takes place before
  the tick ends (R151, R156, notes/assumptions/6.md). -/
  activationNear : Bool
  /-- The persist state: none for IDLE, the start time of the persist for PERSIST_BUSY. -/
  persist        : Option Time
  restartPending : Bool
  /-- The model's own: a restart takes effect at this tick and RESTART_TAKES_EFFECT has not yet been taken. -/
  restartDue     : Bool
  storeState     : StoreState
  store          : Store
  deriving DecidableEq, Repr

/-! ### Lane Mode and Test Generator -/

/-- A lane's mode (Chapter 9). -/
inductive LaneMode where
  | opened | closed | test
  deriving DecidableEq, Repr

/-- A test's phase (9.2). -/
inductive Phase where
  | lead | injecting | draining
  deriving DecidableEq, Repr

/-- The test context (9.2). -/
structure TestContext where
  lane          : Lane
  pattern       : Nat
  axleCount     : Nat
  /-- Spacings 1 to n − 1. -/
  spacings      : List Nat
  amplitude     : Nat
  speed         : Nat
  pulseLength   : Nat
  rowBOffset    : Nat
  startTime     : Time
  rowAStarts    : List Time
  expiry        : Time
  phase         : Phase
  vehicleOpened : Bool
  /-- The injected excess being supplied on each row since the last INJECTION_PULSE (R162). -/
  supplied      : Rows Nat
  deriving DecidableEq, Repr

/-- A test's outcome (9.2). -/
inductive TestOutcome where
  | passed | suspect | aborted
  deriving DecidableEq, Repr

/-- The last test result (9.2): ratios of A-R, A-L, B-R, B-L, absent after ABORTED. -/
structure TestResult where
  lane    : Lane
  pattern : Nat
  outcome : TestOutcome
  time    : Stamp
  ratios  : Option (List Nat)
  record  : Option Seq
  deriving DecidableEq, Repr

/-- The state of the Lane Mode and Test Generator. -/
structure Ltg where
  modes : Quad LaneMode
  test  : Option TestContext
  last  : Option TestResult
  deriving DecidableEq, Repr

/-! ### Port Interfaces and Notice Logic -/

/-- A frame's code, tag and payload (11.1). -/
structure Frame where
  code    : Byte
  tag     : Byte
  payload : List Byte
  deriving DecidableEq, Repr

/-- The receiver state and partial frame (R172). Bytes are held from the command code on. -/
inductive Receiver where
  | hunting
  | awaitingSync
  | assembling (bytes : List Byte)
  /-- The second check byte has been received and FRAME_RECEIVED has not yet been taken. -/
  | complete (bytes : List Byte)
  deriving DecidableEq, Repr

/-- The transmitter: idle, or sending a response frame whose last character has been sent at `finish` (R174). -/
inductive Transmitter where
  | idle
  | sending (frame : List Byte) (finish : Time)
  deriving DecidableEq, Repr

/-- A pointer's step mode (R142). -/
inductive StepMode where
  | none | increment
  deriving DecidableEq, Repr

/-- A table pointer (R142). -/
structure Pointer where
  table : TableId
  index : Nat
  step  : StepMode
  deriving DecidableEq, Repr

/-- A notice line mode (R183). -/
inductive LineMode where
  | levelLow | levelHigh | pulse
  deriving DecidableEq, Repr

/-- What the port logic holds for one port (Chapter 10). -/
structure Port where
  role           : Role
  rate           : Rate
  rx             : Receiver
  /-- The end of the last good character (R172). -/
  rxLast         : Time
  buffer         : Option Frame
  tx             : Transmitter
  pointer        : Pointer
  frameErrors    : Count
  overruns       : Count
  flags          : NoticeSet
  mask           : NoticeSet
  lineMode       : LineMode
  reminder       : Bool
  /-- The pulse state: none for IDLE, the pulse end time for PULSING (R185). -/
  pulse          : Option Time
  reminderExpiry : Option Time
  deriving DecidableEq, Repr

end Sys2Proof.Machine
end

