-- ==== Sys2Proof/Machine/Evaluate.lean ====
section
/-! DEFINITION. The Class and Limit Evaluator's computations on one closed vehicle (R97 to R109): class match, axle groups,
limit checks, worst check and alert kind. -/

namespace Sys2Proof.Machine

/-- A spacing rule is met: absent, or its spacing exists and lies within its bounds (R100). -/
def ruleMet (spacings : List Nat) (j : Nat) : Option (Nat × Nat) → Bool
  | none => true
  | some (lo, hi) =>
    match spacings[j]? with
    | some x => decide (lo ≤ x ∧ x ≤ hi)
    | none => false

/-- An enabled entry matches when every one of its rules is met (R99 to R101). -/
def classMatches (e : ClassEntry) (axles : Nat) (spacings : List Nat) (gross : Nat) : Bool :=
  e.enabled && decide (e.countMin ≤ axles ∧ axles ≤ e.countMax) &&
  (e.rules.toList.zipIdx.all fun (r, j) => ruleMet spacings j r) &&
  (match e.grossMin with | some g => decide (g ≤ gross) | none => true) &&
  (match e.grossMax with | some g => decide (gross ≤ g) | none => true)

/-- The class code and profile index of the first enabled entry that matches, or class 0 and profile 0 (R99). -/
def matchClass (set : CalSet) (axles : Nat) (spacings : List Nat) (gross : Nat) : Nat × Nat :=
  match set.classes.toList.find? (fun e => classMatches e axles spacings gross) with
  | some e => (e.code, e.profile)
  | none => (0, 0)

/-- An axle group: start index, size and load (R102). -/
structure Group where
  start : Nat
  size  : Nat
  load  : Nat
  deriving DecidableEq, Repr

/-- One axle joins the last group or starts a new one (R102). Groups are held last first; `index` is the axle's number. -/
def addToGroups (distance : Nat) (gs : List Group) (index : Nat) (a : Axle) : List Group :=
  match gs, a.spacing with
  | g :: rest, some x =>
    if x ≤ distance then ⟨g.start, g.size + 1, g.load + a.load⟩ :: rest else ⟨index, 1, a.load⟩ :: g :: rest
  | gs, _ => ⟨index, 1, a.load⟩ :: gs

/-- The axle groups in ascending start index (R102). -/
def axleGroups (distance : Nat) (axles : List Axle) : List Group :=
  ((axles.zipIdx 1).foldl (fun gs ai => addToGroups distance gs ai.2 ai.1) []).reverse

/-- A group's kind by its size (R103). -/
def groupKind (g : Group) : CheckKind :=
  if g.size ≤ 1 then .single else if g.size = 2 then .tandem else .tridem

/-- A check: its kind, index, load and limit (R105). -/
structure Check where
  kind  : CheckKind
  index : Option Nat
  load  : Nat
  limit : Nat
  deriving DecidableEq, Repr

/-- The limit that a profile gives a kind of check (R104, R105). -/
def profileLimit (p : ProfileEntry) : CheckKind → Nat
  | .single => p.single
  | .tandem => p.tandem
  | .tridem => p.tridem
  | .gross => p.gross

/-- The checks of a profile, in check order, without those whose limit is 0 (R105). -/
def limitChecks (p : ProfileEntry) (groups : List Group) (gross : Nat) : List Check :=
  let groupChecks : List Check :=
    groups.map fun g => ⟨groupKind g, some g.start, g.load, profileLimit p (groupKind g)⟩
  let grossCheck : Check := ⟨.gross, none, gross, p.gross⟩
  (groupChecks ++ [grossCheck]).filter fun c => decide (c.limit ≠ 0)

/-- A check is exceeded when load × 1,000 is greater than limit × (1,000 + tolerance) (R106). -/
def exceeded (tolerance : Nat) (c : Check) : Bool := decide (c.limit * (1000 + tolerance) < c.load * 1000)

/-- The excess of a check in ‰ of its limit, floored and held at 65,535 (R107). -/
def excessOf (c : Check) : Nat := min ((c.load - c.limit) * 1000 / c.limit) 65535

/-- The worst of the exceeded checks: the largest excess, the first in check order where several share it (R107). -/
def worstCheck (checks : List Check) : Option Worst :=
  checks.foldl (fun best c =>
    match best with
    | none => some ⟨excessOf c, c.kind, c.index⟩
    | some w => if w.excess < excessOf c then some ⟨excessOf c, c.kind, c.index⟩ else some w) none

/-- The alert kind from the worst check and the vehicle's flags (R108). -/
def alertKind (worst : Option Worst) (flags : Flags) : AlertKind :=
  match worst with
  | none => .none
  | some _ => if hasQualityFlag flags then .advisory else .enforceable

/-- What the evaluation gives (R109). -/
structure Evaluation where
  code       : Nat
  profile    : Nat
  groupCount : Nat
  alert      : AlertKind
  worst      : Option Worst
  deriving DecidableEq, Repr

/-- The evaluation of a vehicle (R97). -/
def evaluate (set : CalSet) (axles : List Axle) (gross : Nat) (flags : Flags) : Evaluation :=
  let m := matchClass set axles.length (axles.filterMap (·.spacing)) gross
  let groups := axleGroups set.site.groupDistance axles
  let checks := limitChecks (set.profiles.toList.getD m.2 defaultProfile) groups gross
  let worst := worstCheck (checks.filter (exceeded set.site.tolerance))
  ⟨m.1, m.2, groups.length, alertKind worst flags, worst⟩

end Sys2Proof.Machine
end

