-- ==== Sys2Proof/Machine/Temperature.lean ====
section
/-! DEFINITION. The Pavement Temperature Unit's computations (Chapter 3): probe readings, effective temperature, the
temperature table and the applied factor. -/

namespace Sys2Proof.Machine

/-- A reading is accepted when there is no converter fault and it lies within −640..1,360 (R41). -/
def acceptedReading : Option Int → Option Int
  | some t => if -640 ≤ t ∧ t ≤ 1360 then some t else none
  | none => none

/-- The filter's step toward a reading (R44): d / 2^k, rounded half away from zero. -/
def filterStep (k : Nat) (tf t : Int) : Int := tf + roundHalfAway (t - tf) (2 ^ k)

/-- An accepted reading acts on a probe (R42). -/
def acceptReading (k : Nat) (t : Int) (p : Probe) : Probe :=
  match p.state, p.filtered with
  | .off, _ => p
  | .stale, _ => ⟨.valid, some t, 0, false⟩
  | _, some tf => ⟨.valid, some (filterStep k tf t), 0, false⟩
  | _, none => ⟨.valid, some t, 0, false⟩

/-- A rejected reading acts on a probe: the probe after, and whether FAULT is set (R43). -/
def rejectReading (staleLimit : Nat) (p : Probe) : Probe × Bool :=
  match p.state with
  | .off => (p, false)
  | .valid =>
    if staleLimit ≤ 1 then (⟨.stale, none, 1, true⟩, true) else ({ p with state := .holding, rejected := 1 }, false)
  | .holding =>
    if staleLimit ≤ p.rejected + 1 then (⟨.stale, none, p.rejected + 1, true⟩, true)
    else ({ p with rejected := p.rejected + 1 }, false)
  | .stale =>
    let n := min (p.rejected + 1) 3600
    if staleLimit ≤ n ∧ p.reported = false then ({ p with rejected := n, reported := true }, true)
    else ({ p with rejected := n }, false)

/-- One probe's reading of a site second: the probe after, and whether FAULT is set (R41 to R43). -/
def readProbeInput (site : SiteEntry) (reading : Option Int) (p : Probe) : Probe × Bool :=
  if p.state = .off then (p, false)
  else match acceptedReading reading with
  | some t => (acceptReading site.filterShift t p, false)
  | none => rejectReading site.staleLimit p

/-- The value of a usable probe: VALID or HOLDING, with its Tf (R46). -/
def usable (p : Probe) : Option Int :=
  match p.state with
  | .holding | .valid => p.filtered
  | .off | .stale => none

/-- The alternate's value with the substituted state set, or the fallback (R46). -/
def substituteTemp (probes : Quad Probe) (e : LaneEntry) : Int × Bool :=
  match e.alternate.bind (fun a => usable (probes.get a)) with
  | some t => (t, true)
  | none => (e.fallback, true)

/-- A lane's effective temperature and substituted state (R46). -/
def effectiveTemp (probes : Quad Probe) (e : LaneEntry) : Int × Bool :=
  match e.kind with
  | .fixed => (e.fallback, false)
  | .probe =>
    match usable (probes.get e.probeP) with
    | some t => (t, false)
    | none => substituteTemp probes e
  | .mean =>
    match usable (probes.get e.probeP), usable (probes.get e.probeQ) with
    | some t, some u => (roundHalfAway (t + u) 2, false)
    | some t, none => (t, true)
    | none, some u => (u, true)
    | none, none => substituteTemp probes e

/-- T_i of the table, for i = 1..8. -/
def pointTemp (set : CalSet) (i : Nat) : Int := (set.temp.toList.getD (i - 1) ⟨0, 0⟩).temp

/-- F_i of the table, for i = 1..8. -/
def pointFactor (set : CalSet) (i : Nat) : Nat := (set.temp.toList.getD (i - 1) ⟨0, 0⟩).factor

/-- The upward move of the segment: while s < 8 and T ≥ T_{s+1} (R50). The first argument bounds the moves. -/
def segmentUp (set : CalSet) (t : Int) : Nat → Nat → Nat
  | 0, s => s
  | n + 1, s => if s < 8 ∧ pointTemp set (s + 1) ≤ t then segmentUp set t n (s + 1) else s

/-- The downward move of the segment: while s > 1 and T < T_s − H (R50). -/
def segmentDown (set : CalSet) (t : Int) : Nat → Nat → Nat
  | 0, s => s
  | n + 1, s =>
    if 1 < s ∧ t < pointTemp set s - set.control.hysteresis then segmentDown set t n (s - 1) else s

/-- The segment after a lane update in STEP mode (R50). -/
def moveSegment (set : CalSet) (t : Int) (s : Nat) : Nat := segmentDown set t 8 (segmentUp set t 8 s)

/-- The segment set without hysteresis: the largest i for which T ≥ T_i, or 1 (R50, R55, R57). -/
def freshSegment (set : CalSet) (t : Int) : Nat :=
  max 1 ((List.range 9).foldl (fun best i => if 1 ≤ i ∧ pointTemp set i ≤ t then i else best) 1)

/-- Ft_target (R51): R49 in INTERP mode, F_s in STEP mode. -/
def targetFactor (set : CalSet) (t : Int) (segment : Nat) : Nat :=
  match set.control.mode with
  | .interp => (interpolate (tempPoints set) t).toNat
  | .step => pointFactor set segment

/-- The move of Ft_applied toward its target at a lane update (R52). -/
def moveApplied (c : TempControls) (target applied : Nat) : Nat :=
  if applied < target then (if c.jumpUp then target else min target (applied + c.rate))
  else if target < applied then (if c.jumpDown then target else max target (applied - c.rate))
  else applied

/-- The update of one lane on a site second (R45). -/
def updateLaneTemp (set : CalSet) (probes : Quad Probe) (e : LaneEntry) (x : LaneTemp) : LaneTemp :=
  let t := effectiveTemp probes e
  let seg := match set.control.mode with
    | .step => moveSegment set t.1 x.segment
    | .interp => x.segment
  let target := targetFactor set t.1 seg
  ⟨t.1, t.2, seg, target, moveApplied set.control target x.applied⟩

/-- A lane's context set afresh at power-on and at an activation (R55, R57). -/
def freshLaneTemp (set : CalSet) (probes : Quad Probe) (e : LaneEntry) : LaneTemp :=
  let t := effectiveTemp probes e
  let seg := freshSegment set t.1
  let target := targetFactor set t.1 seg
  ⟨t.1, t.2, seg, target, target⟩

/-- A probe at an activation, by its old and new enabled setting (R54). -/
def activateProbe (old new : Bool) (p : Probe) : Probe :=
  match old, new with
  | true, false => ⟨.off, none, 0, false⟩
  | false, true => ⟨.stale, none, 0, false⟩
  | true, true => p
  | false, false => ⟨.off, none, 0, false⟩

end Sys2Proof.Machine
end

