-- ==== Sys2Proof/Machine/Initial.lean ====
section
/-! DEFINITION. The value each piece of state takes at power-on, once the active set has been loaded
(R18, R39, R57, R95, R115, R134, R155, R168, R188). -/

namespace Sys2Proof.Machine

/-- Both counts 0, no tick taken (R1, R2). -/
def initialClock : Clock := ⟨0, 0, 0, false, false⟩

/-- The restart input's last reading counts as low (R186); the other levels are read at the first sample tick
(DESIGN CHOICE, notes/assumptions/8.md). -/
def initialPins : Pins := ⟨Quad.all false, Quad.all none, false, false⟩

/-- A channel at power-on: SETTLING if enabled, else OFF (R18). B has no value before its seeding sample
(DESIGN CHOICE 0, notes/assumptions/14.md). -/
def initialChannel (enabled : Bool) : Channel where
  state := if enabled then .settling else .off
  baseline := 0
  seeded := false
  settling := 0
  tStart := 0
  tLast := 0
  area := 0
  saturated := false
  quietRun := 0
  quietArea := 0
  quietSat := false
  overLong := false
  hold := 0
  health := .untested
  ratio := none

def initialSfe (set : CalSet) : Sfe where
  channels := Quad.ofChan fun c => initialChannel (set.channels.chan c).enabled
  noise := Quad.all 0
  heldEntries := Quad.all 0

def initialXf (set : CalSet) : Xf where
  pools := Quad.all ⟨[], []⟩
  queues := Quad.all []
  windows := transitWindows set
  orphanA := Quad.all 0
  orphanB := Quad.all 0

/-- A probe at power-on (R57). -/
def initialProbe (enabled : Bool) : Probe := ⟨if enabled then .stale else .off, none, 0, false⟩

def initialPtu (set : CalSet) : Ptu :=
  let probes := Quad.of fun i => initialProbe (set.probes.get i)
  ⟨probes, Quad.of fun l => freshLaneTemp set probes (set.lanes.get l)⟩

/-- A context whose state is EMPTY, all its other parts cleared (R75). -/
def emptyContext : Context where
  state := .empty
  openTick := 0
  openTime := ⟨0, 0⟩
  presenceSeen := false
  successor := none
  closeExpiry := none
  axles := []
  firstTemp := none
  channelHeld := false
  calChanged := false
  continuation := false

def initialVa : Va := ⟨Quad.all emptyContext, Quad.all none, Quad.all 0⟩

def initialCle : Cle := ⟨Quad.all none, Quad.all 0⟩

/-- The default subscription of a role (R124). -/
def roleSubscription : Role → Subscription
  | .enforcement => .enforceableOnly
  | .statistics => .off
  | .maintenance => .all
  | .disabled => .off

def initialRingPort (role : Role) : RingPort where
  cursor := 1
  laneMask := 0xF#4
  classMask := 0xFFFFFFFF#32
  format := .full
  subscription := roleSubscription role
  alerts := []
  recordLoss := 0
  alertLoss := 0

def initialRr (straps : Tri Strap) : Rr where
  ring := []
  next := 1
  committed := Quad.all 0
  ports := Tri.of fun p => initialRingPort (straps.get p).role

/-- A store whose contents are valid: the mark is present and the check value agrees (R155). -/
def Store.holdsValidSet (st : Store) : Bool := st.mark && st.checkAgrees

/-- The Calibration Controller after the power-on load (R155). -/
def initialCc (st : Store) : Cc where
  active := if st.holdsValidSet then st.set else builtIn
  revision := if st.holdsValidSet then st.revision else 0
  edits := if st.holdsValidSet then st.set else builtIn
  claim := none
  claimExpiry := none
  waiting := false
  commitExpiry := none
  activationDue := false
  activationNear := false
  persist := none
  restartPending := false
  restartDue := false
  storeState := if st.holdsValidSet then .valid else .blank
  store := st

def initialLtg : Ltg := ⟨Quad.all .opened, none, none⟩

/-- A port at power-on (R170, R188), with the notice flags that the calibration load sets (R155): a DISABLED port
holds none (R170). -/
def initialPort (strap : Strap) (flags : NoticeSet) : Port where
  role := strap.role
  rate := strap.rate
  rx := .hunting
  rxLast := 0
  buffer := none
  tx := .idle
  pointer := ⟨.site, 0, .none⟩
  frameErrors := 0
  overruns := 0
  flags := if strap.role = .disabled then 0 else flags
  mask := 0
  lineMode := .levelLow
  reminder := false
  pulse := none
  reminderExpiry := none

/-- The ports at power-on: a BLANK store sets FAULT at every port (R155). -/
def initialPorts (straps : Tri Strap) (st : Store) : Tri Port :=
  Tri.of fun p => initialPort (straps.get p) (if st.holdsValidSet then 0 else Notice.fault)

/-- The store before any persist: no validity mark (DESIGN CHOICE, notes/assumptions/2.md). -/
def blankStore : Store := ⟨false, builtIn, 0, false⟩

/-- The straps of `State.reset` (DESIGN CHOICE, notes/assumptions/1.md). -/
def resetStraps : Tri Strap := ⟨⟨.enforcement, .b115200⟩, ⟨.statistics, .b115200⟩, ⟨.maintenance, .b115200⟩⟩

end Sys2Proof.Machine
end

