-- ==== Sys2Proof/Machine/State.lean ====
section
/-! DEFINITION. The machine's state: one sub-structure for each block of 00_scope.md 3.1 that owns state, the supply, the
pins, and the queue of waiting commands; the reasons a step can stop; and the state after reset. -/

namespace Sys2Proof.Machine

/-- The state of the device. -/
structure State where
  /-- Supply is applied (00_scope.md 5.6). -/
  powered : Bool
  clock : Clock
  pins : Pins
  sfe : Sfe
  xf : Xf
  ptu : Ptu
  va : Va
  cle : Cle
  rr : Rr
  cc : Cc
  ltg : Ltg
  ports : Tri Port
  /-- The frames that completed before the first sample tick, in the order they completed (R188). -/
  early : List (PortId × Frame)
  /-- The model's own: the number of free values taken so far (notes/assumptions/10.md). -/
  freeIndex : Nat
  /-- The commands that are waiting, first in, first out. -/
  pending : List Instr
  deriving DecidableEq, Repr

/-- Faults: none. The spec gives the device no event that stops it, so no meaning raises a fault. -/
inductive Fault where
  deriving DecidableEq, Repr

/-- Refusals. -/
inductive Refusal where
  /-- Raised by `exec` alone, for a command whose meaning the model does not give: none in this model. Safe. -/
  | notModelled (mnemonic : String)
  deriving DecidableEq, Repr

/-- The device right after POWER_ON with a blank store and the straps of `resetStraps`, before its first sample tick
(R155; DESIGN CHOICE of store and straps, notes/assumptions/1.md and 2.md). -/
def State.reset : State where
  powered := true
  clock := initialClock
  pins := initialPins
  sfe := initialSfe builtIn
  xf := initialXf builtIn
  ptu := initialPtu builtIn
  va := initialVa
  cle := initialCle
  rr := initialRr resetStraps
  cc := initialCc blankStore
  ltg := initialLtg
  ports := initialPorts resetStraps blankStore
  early := []
  freeIndex := 0
  pending := []

end Sys2Proof.Machine
end

