-- ==== Sys2Proof/Machine/Ops.lean ====
section
/-! DEFINITION. Named operations over the state: one read and one replacement for each part, the present time and site
clock, and the setting and clearing of notice flags with the notice line (R181 to R185). -/

namespace Sys2Proof.Machine

/-! ### Reading the state -/

/-- The sample time of the present tick (R1). -/
def State.now (s : State) : Time := s.clock.now

/-- The site clock at the present tick (R2). A site second of this tick counts in it whether or not SITE_SECOND has been
taken (notes/assumptions/7.md). -/
def State.siteClock (s : State) : Stamp :=
  ⟨if s.clock.secondDue then s.clock.seconds + 1 else s.clock.seconds, s.clock.tick⟩

def State.channel (s : State) (c : ChannelId) : Channel := s.sfe.channels.chan c
def State.pool (s : State) (l : Lane) (r : Row) : List PoolHit := s.xf.pools.row l r
def State.queue (s : State) (l : Lane) : List Crossing := s.xf.queues.get l
def State.context (s : State) (l : Lane) : Context := s.va.contexts.get l
def State.mode (s : State) (l : Lane) : LaneMode := s.ltg.modes.get l
def State.port (s : State) (p : PortId) : Port := s.ports.get p
def State.ringPort (s : State) (p : PortId) : RingPort := s.rr.ports.get p
def State.set (s : State) : CalSet := s.cc.active

/-- The lane is occupied (R73). -/
def State.isOccupied (s : State) (l : Lane) : Bool := (s.va.occupied.get l).isSome

/-- A port that is DISABLED takes no part in anything (R170). -/
def State.disabled (s : State) (p : PortId) : Bool := decide ((s.port p).role = .disabled)

/-- The presence input of a lane reads as occupied under the active polarity (R73). -/
def State.readsOccupied (s : State) (l : Lane) : Bool :=
  match (s.set.lanes.get l).presencePolarity with
  | .activeHigh => s.pins.presence.get l
  | .activeLow => !(s.pins.presence.get l)

/-- The lane hold indication: one of the lane's channels is HELD (R14). -/
def State.laneHeld (s : State) (l : Lane) : Bool := l.channels.any fun c => decide ((s.channel c).state = .held)

/-! ### Replacing parts of the state -/

def State.withChannel (s : State) (c : ChannelId) (x : Channel) : State :=
  { s with sfe := { s.sfe with channels := s.sfe.channels.setChan c x } }

def State.withPool (s : State) (l : Lane) (r : Row) (x : List PoolHit) : State :=
  { s with xf := { s.xf with pools := s.xf.pools.setRow l r x } }

def State.withQueue (s : State) (l : Lane) (x : List Crossing) : State :=
  { s with xf := { s.xf with queues := s.xf.queues.set l x } }

def State.withContext (s : State) (l : Lane) (x : Context) : State :=
  { s with va := { s.va with contexts := s.va.contexts.set l x } }

def State.withOccupied (s : State) (l : Lane) (x : Option Time) : State :=
  { s with va := { s.va with occupied := s.va.occupied.set l x } }

def State.withTrigger (s : State) (l : Lane) (x : Option Time) : State :=
  { s with cle := { s.cle with triggers := s.cle.triggers.set l x } }

def State.withMode (s : State) (l : Lane) (x : LaneMode) : State :=
  { s with ltg := { s.ltg with modes := s.ltg.modes.set l x } }

def State.withPort (s : State) (p : PortId) (x : Port) : State := { s with ports := s.ports.set p x }

def State.withRingPort (s : State) (p : PortId) (x : RingPort) : State :=
  { s with rr := { s.rr with ports := s.rr.ports.set p x } }

def State.withPresence (s : State) (l : Lane) (high : Bool) : State :=
  { s with pins := { s.pins with presence := s.pins.presence.set l high } }

/-! ### Lane counters (R178) -/

/-- Increment one lane's count, wrapping. -/
def bump (q : Quad Count) (l : Lane) : Quad Count := q.set l (q.get l + 1)

def State.countNoise (s : State) (l : Lane) : State := { s with sfe := { s.sfe with noise := bump s.sfe.noise l } }
def State.countHeld (s : State) (l : Lane) : State :=
  { s with sfe := { s.sfe with heldEntries := bump s.sfe.heldEntries l } }
def State.countOrphanA (s : State) (l : Lane) : State := { s with xf := { s.xf with orphanA := bump s.xf.orphanA l } }
def State.countOrphanB (s : State) (l : Lane) : State := { s with xf := { s.xf with orphanB := bump s.xf.orphanB l } }
def State.countGhost (s : State) (l : Lane) : State := { s with va := { s.va with ghosts := bump s.va.ghosts l } }
def State.countTrigger (s : State) (l : Lane) : State := { s with cle := { s.cle with counts := bump s.cle.counts l } }
def State.countCommitted (s : State) (l : Lane) : State :=
  { s with rr := { s.rr with committed := bump s.rr.committed l } }

/-- All 28 lane counters zeroed (R179). -/
def State.zeroLaneCounters (s : State) : State :=
  { s with
    sfe := { s.sfe with noise := Quad.all 0, heldEntries := Quad.all 0 }
    xf := { s.xf with orphanA := Quad.all 0, orphanB := Quad.all 0 }
    va := { s.va with ghosts := Quad.all 0 }
    cle := { s.cle with counts := Quad.all 0 }
    rr := { s.rr with committed := Quad.all 0 } }

/-! ### Notice flags and lines -/

/-- The unmasked pending set (R181). -/
def Port.unmasked (p : Port) : NoticeSet := p.flags &&& ~~~p.mask

/-- A pulse starts, or the pulse in progress is extended; with the reminder on the reminder expiry is set (R185). -/
def startPulse (now : Time) (p : Port) : Port :=
  { p with
    pulse := some (later now 16)
    reminderExpiry := if p.reminder then some (later now 8192) else p.reminderExpiry }

/-- The notice line follows a change of the unmasked pending set from `before` (R185): in PULSE mode a pulse starts when
the set passes from empty to non-empty, and the reminder expiry is cleared when the set becomes empty. In the level modes
the line is a function of the set (R184). -/
def followSet (now : Time) (before : NoticeSet) (p : Port) : Port :=
  if p.lineMode = .pulse then
    if before = 0 ∧ p.unmasked ≠ 0 then startPulse now p
    else if p.unmasked = 0 then { p with reminderExpiry := none }
    else p
  else p

/-- A port's pending flags replaced, the line following. -/
def replaceFlags (now : Time) (f : NoticeSet) (p : Port) : Port := followSet now p.unmasked { p with flags := f }

/-- Set a notice flag at one port (R181). A DISABLED port holds none (R170). -/
def raiseAt (p : PortId) (f : NoticeSet) (s : State) : State :=
  if s.disabled p then s else s.withPort p (replaceFlags s.now ((s.port p).flags ||| f) (s.port p))

/-- Set a notice flag at all ports: at each port that is not DISABLED (R170, R181). -/
def raiseAll (f : NoticeSet) (s : State) : State := raiseAt .p3 f (raiseAt .p2 f (raiseAt .p1 f s))

/-- The level of a port's notice line, true for high (R170, R184, R185). Until the first sample tick after power-on it is
driven high (R188). -/
def noticeLine (s : State) (p : PortId) : Bool :=
  if s.disabled p ∨ s.clock.started = false then true
  else match (s.port p).lineMode with
  | .levelLow => decide ((s.port p).unmasked = 0)
  | .levelHigh => decide ((s.port p).unmasked ≠ 0)
  | .pulse => (s.port p).pulse.isNone

/-- The level of a lane's trigger output, true for high: active while PULSING, at the level of the active set's polarity
(R110, R114). It is low until POWER_ON has loaded the active set (R115), which is so exactly without supply
(notes/assumptions/18.md). -/
def triggerOutput (s : State) (l : Lane) : Bool :=
  if s.powered = false then false
  else match (s.set.lanes.get l).triggerPolarity with
  | .activeHigh => (s.cle.triggers.get l).isSome
  | .activeLow => (s.cle.triggers.get l).isNone

/-! ### Outcomes -/

/-- The outcome of a command. -/
abbrev Result := Host.Outcome State Fault Refusal

end Sys2Proof.Machine
end

