-- ==== Sys2Proof/Machine/Samples.lean ====
section
/-! DEFINITION. What a channel does with one converter sample (R4 to R8, R12), and the moves of a channel between its
states (R3, R4, R9, R11). -/

namespace Sys2Proof.Machine

/-- The largest area (R8). -/
def maxArea : Nat := 16777215

/-- The samples of a SETTLING period and the quiet samples that end a hold (R4, R12). -/
def settlingSamples : Nat := 8192

/-- The consecutive quiet samples that end a hit (R9). -/
def quietSamples : Nat := 8

/-- The parts of the hit in progress cleared: they have meaning in IN_HIT only (1.2), and what they hold outside it is a DESIGN
CHOICE (notes/assumptions/22.md). -/
def Channel.clearHit (c : Channel) : Channel :=
  { c with
    tStart := 0, tLast := 0, area := 0, saturated := false, quietRun := 0, quietArea := 0, quietSat := false,
    overLong := false }

/-- The channel enters SETTLING (R4). DESIGN CHOICE (notes/assumptions/22.md): the hold count, which has meaning in HELD only,
is 0 from then on. -/
def Channel.toSettling (c : Channel) : Channel :=
  { c.clearHit with state := .settling, seeded := false, settling := 0, hold := 0 }

/-- The channel enters OFF: B, the seeded mark and the settling count are left as they were (R3). DESIGN CHOICE
(notes/assumptions/22.md): the hold count, which has meaning in HELD only, is 0 from then on. -/
def Channel.toOff (c : Channel) : Channel := { c.clearHit with state := .off, hold := 0 }

/-- The channel returns to IDLE from a hit, with B as it was frozen (R9, R165, R167). -/
def Channel.toIdle (c : Channel) : Channel := { c.clearHit with state := .idle }

/-- The channel enters HELD, B frozen (R11). -/
def Channel.toHeld (c : Channel) : Channel := { c.clearHit with state := .held, hold := 0 }

/-- The excess of a sample against B, with the injected excess of a test added (R5, R16). -/
def excess (sample injected baseline : Nat) : Int := (sample : Int) - (baseline / 16 : Nat) + (injected : Int)

/-- B moved toward 16 × s by the quotient of the difference, truncated toward zero (R4, R5). -/
def track (divisor sample baseline : Nat) : Nat :=
  ((baseline : Int) + Int.tdiv (16 * (sample : Int) - baseline) divisor).toNat

/-- An addition to the area, held at 16,777,215 with the saturation mark set (R8). -/
def addArea (area add : Nat) (mark : Bool) : Nat × Bool :=
  if maxArea < area + add then (maxArea, true) else (area + add, mark)

/-- A hit starts on this sample (R7). -/
def startHit (now : Time) (sample : Nat) (e : Int) (c : Channel) : Channel :=
  { c with
    state := .inHit, tStart := now, tLast := now, area := e.toNat, saturated := decide (sample = 4095),
    quietRun := 0, quietArea := 0, quietSat := false, overLong := false }

/-- A quiet sample of a hit joins the quiet run (R8). -/
def quietSample (sample : Nat) (e : Int) (c : Channel) : Channel :=
  { c with
    quietRun := c.quietRun + 1
    quietArea := c.quietArea + e.toNat
    quietSat := c.quietSat || decide (sample = 4095) }

/-- A sample at or above the end level absorbs the quiet run and is counted into the hit (R8). -/
def loudSample (now : Time) (sample : Nat) (e : Int) (c : Channel) : Channel :=
  let a := addArea c.area c.quietArea (c.saturated || c.quietSat)
  let b := addArea a.1 e.toNat a.2
  { c with
    area := b.1, saturated := b.2 || decide (sample = 4095), quietRun := 0, quietArea := 0, quietSat := false,
    tLast := now }

/-- The max hit duration is exceeded on this sample: the hit has not ended with it, and the samples from t_start to it
inclusive are more than the limit (R8). -/
def markOverLong (maxHit : Nat) (now : Time) (c : Channel) : Channel :=
  { c with overLong := decide (c.quietRun < quietSamples ∧ maxHit < elapsed now c.tStart + 1) }

/-- One sample handled as the channel's state requires (R1, R3 to R8, R12). -/
def sampleChannel (entry : ChannelEntry) (maxHit : Nat) (now : Time) (sample injected : Nat) (c : Channel) : Channel :=
  let e := excess sample injected c.baseline
  match c.state with
  | .off => c
  | .settling =>
    { c with
      baseline := if c.seeded then track 4 sample c.baseline else 16 * sample
      seeded := true
      settling := c.settling + 1 }
  | .idle =>
    if startThreshold entry ≤ e then startHit now sample e c
    else { c with baseline := track 64 sample c.baseline }
  | .inHit =>
    markOverLong maxHit now (if e < endLevel entry then quietSample sample e c else loudSample now sample e c)
  | .held => { c with hold := if e < endLevel entry then c.hold + 1 else 0 }

/-- A hit in progress is discarded without count, the channel returning to IDLE; other states keep (R165, R167). -/
def discardHit (c : Channel) : Channel := if c.state = .inHit then c.toIdle else c

/-- Apply a change to each of a lane's four channels. -/
def forLaneChannels (f : Channel → Channel) (l : Lane) (s : State) : State :=
  l.channels.foldl (fun s c => s.withChannel c (f (s.channel c))) s

end Sys2Proof.Machine
end

