-- ==== Sys2Proof/Machine/Lanes.lean ====
section
/-! DEFINITION. The injection test (9.2 to 9.5): its schedule, the injected excess, the measurement, and the completion and
the abort of a test. -/

namespace Sys2Proof.Machine

/-! ### The schedule (R161) -/

/-- The pulse length in samples: 200 mm at the test speed. -/
def pulseSamples (speed : Nat) : Nat := roundHalfUp (200 * 16384) speed

/-- The cumulative spacings in cm from axle 1 to each axle. -/
def cumulative : Nat → List Nat → List Nat
  | base, [] => [base]
  | base, x :: xs => base :: cumulative (base + x) xs

/-- The row-A start times: t0 plus ten times the cumulative spacing in mm at the test speed. -/
def rowAStartTimes (t0 : Time) (speed : Nat) (spacings : List Nat) : List Time :=
  (cumulative 0 spacings).map fun cm => later t0 (roundHalfUp (10 * cm * 16384) speed)

/-- The row-B offset: the row spacing at the test speed, held inside the transit window. -/
def rowBOffsetTicks (spacing speed : Nat) (w : Window) : Nat :=
  min (max (roundHalfUp (spacing * 16384) speed) w.dtMin) w.dtMax

/-- The test speed: the pattern's speed at the nearer end of the band where it lies outside. -/
def testSpeed (site : SiteEntry) (speed : Nat) : Nat := (clampNat site.vMin site.vMax speed).1

/-- The test context of an accepted LANE_TEST (R160, R161). -/
def newTest (set : CalSet) (w : Window) (now : Time) (l : Lane) (pattern : Nat) (p : TestPattern) : TestContext :=
  let v := testSpeed set.site p.speed
  let d := pulseSamples v
  let spacings := p.spacings.toList.take (p.axleCount - 1)
  let t0 := later now 8192
  let starts := rowAStartTimes t0 v spacings
  let offset := rowBOffsetTicks (set.lanes.get l).spacing v w
  { lane := l, pattern := pattern, axleCount := p.axleCount, spacings := spacings, amplitude := p.amplitude, speed := v,
    pulseLength := d, rowBOffset := offset, startTime := t0, rowAStarts := starts,
    expiry := later (later (starts.getLast?.getD t0) (offset + d)) 16384, phase := .lead, vehicleOpened := false,
    supplied := ⟨0, 0⟩ }

/-- The start times of the pulses on a row (R162). -/
def TestContext.starts (t : TestContext) : Row → List Time
  | .a => t.rowAStarts
  | .b => t.rowAStarts.map fun x => later x t.rowBOffset

/-- The injected excess on a row's channels at a tick: the amplitude during the d samples of a pulse, else 0 (R162). -/
def TestContext.excessAt (t : TestContext) (now : Time) (r : Row) : Nat :=
  if (t.starts r).any fun x => decide (elapsed now x < t.pulseLength) then t.amplitude else 0

/-- The end of the last pulse: the first sample after its last (R162). -/
def TestContext.lastEnd (t : TestContext) : Time := later (t.rowAStarts.getLast?.getD t.startTime) (t.rowBOffset + t.pulseLength)

/-- The phase at a tick (R162). -/
def TestContext.phaseAt (t : TestContext) (now : Time) : Phase :=
  if reached now t.startTime = false then .lead
  else if reached now t.lastEnd = false then .injecting
  else .draining

/-- The injected excess that the block adds on a channel at a tick: that of the test lane, 0 elsewhere (R16, R162). -/
def injectedExcess (s : State) (now : Time) (c : ChannelId) : Nat :=
  match s.ltg.test with
  | some t => if t.lane = c.lane then t.excessAt now c.row else 0
  | none => 0

/-- The test context after an injection pulse starts or stops: its phase and the excess now supplied (R162). -/
def TestContext.pulseAt (t : TestContext) (now : Time) : TestContext :=
  { t with phase := t.phaseAt now, supplied := ⟨t.excessAt now .a, t.excessAt now .b⟩ }

/-! ### Measurement (R164) -/

/-- The row wheels of an axle, of both sides. -/
def Axle.rowWheels (a : Axle) : List Wheel := a.rightRows ++ a.leftRows

/-- A channel's measured area: the sum over every row wheel of the axles whose channel it is. -/
def measuredArea (axles : List Axle) (c : ChannelId) : Nat :=
  ((axles.flatMap Axle.rowWheels).map fun w => if w.channel = c then w.area else 0).sum

/-- A channel's ratio in ‰ of the area that n clean pulses would give, held at 65,535 where it is above (R164, R165). -/
def testRatio (t : TestContext) (axles : List Axle) (c : ChannelId) : Nat :=
  min (roundHalfUp (1000 * measuredArea axles c) (t.axleCount * t.amplitude * t.pulseLength)) 65535

/-- The health status of a ratio (R17). -/
def healthOf (ratio : Nat) : Health := if 875 ≤ ratio ∧ ratio ≤ 1125 then .good else .suspect

/-! ### Completion and abort -/

/-- The test context cleared and the last test result written (R165, R167). -/
def State.withResult (s : State) (result : TestResult) : State :=
  { s with ltg := { s.ltg with test := none, last := some result } }

/-- The health records of a lane's channels set from their ratios (R17, R164). -/
def setHealth (ratio : ChannelId → Nat) (l : Lane) (s : State) : State :=
  l.channels.foldl (fun s c =>
    s.withChannel c { s.channel c with health := healthOf (ratio c), ratio := some (ratio c) }) s

/-- The test ends: health, notices, result, the discard of hits in progress where the phase of this tick is not DRAINING,
the lane OPEN and the test context cleared (R162, R164, R165, R166). -/
def completeTest (t : TestContext) (ratio : ChannelId → Nat) (record : Option Seq) (s : State) : State :=
  let ratios := t.lane.channels.map ratio
  let good := ratios.all fun r => decide (healthOf r = .good)
  let s := setHealth ratio t.lane s
  let s := if t.phaseAt s.now = .draining then s else forLaneChannels discardHit t.lane s
  let result : TestResult :=
    ⟨t.lane, t.pattern, if good then .passed else .suspect, s.siteClock, some ratios, record⟩
  let s := (s.withResult result).withMode t.lane .opened
  if good then raiseAll Notice.maint s else raiseAll (Notice.maint ||| Notice.fault) s

/-- The lane's two pools and its row-A queue emptied without counting (R36, R37). -/
def emptyCrossings (l : Lane) (s : State) : State :=
  ((s.withPool l .a []).withPool l .b []).withQueue l []

/-- A running test is aborted (R167). -/
def abortTest (s : State) : State :=
  match s.ltg.test with
  | none => s
  | some t =>
    let s := forLaneChannels discardHit t.lane s
    let s := emptyCrossings t.lane s
    let s := s.withContext t.lane emptyContext
    let result : TestResult := ⟨t.lane, t.pattern, .aborted, s.siteClock, none, none⟩
    raiseAll Notice.maint ((s.withResult result).withMode t.lane .opened)

/-- The lane under test. -/
def State.testLane (s : State) : Option Lane := s.ltg.test.map (·.lane)

/-- Abort the test if it runs on this lane. -/
def abortTestOn (l : Lane) (s : State) : State := if s.testLane = some l then abortTest s else s

end Sys2Proof.Machine
end

