-- ==== Sys2Proof/Machine/Ring.lean ====
section
/-! DEFINITION. The Record Ring (Chapter 7): numbering, commit with eviction, filters, subscriptions and alert queues, and
the walks that FETCH, READ_SEQ and SEEK make. -/

namespace Sys2Proof.Machine

/-- The number of records held (R117). -/
def Rr.count (r : Rr) : Nat := r.ring.length

/-- The oldest held sequence number: the next less the count (R117). -/
def Rr.oldest (r : Rr) : Seq := r.next - BitVec.ofNat 32 r.count

/-- The age of a sequence number: the next less it, modulo 2^32 (R117). -/
def Rr.age (r : Rr) (s : Seq) : Nat := (r.next - s).toNat

/-- The record held under a sequence number (R117). -/
def Rr.record? (r : Rr) (s : Seq) : Option Record :=
  if 1 ≤ r.age s ∧ r.age s ≤ r.count then r.ring[r.count - r.age s]? else none

/-- A record passes a port's filter (R124). -/
def passesFilter (q : RingPort) (x : Record) : Bool :=
  q.laneMask.getLsbD (laneNumber x.lane - 1) && q.classMask.getLsbD x.code

/-- A subscription admits an alert kind (R122). -/
def admits : Subscription → AlertKind → Bool
  | _, .none => false
  | .off, _ => false
  | .enforceableOnly, .advisory => false
  | .enforceableOnly, .enforceable => true
  | .all, _ => true

/-- The alert entry of a record (R122). -/
def alertEntry (x : Record) : AlertEntry := ⟨x.seq, x.lane, x.code, x.alert, x.worst, x.closeTime⟩

/-- An eviction of the record numbered `o` acts on one port's cursor (R120). -/
def evictCursor (o : Seq) (p : PortId) (s : State) : State :=
  if s.disabled p = false ∧ (s.ringPort p).cursor = o then
    raiseAt p Notice.lost
      (s.withRingPort p { s.ringPort p with cursor := o + 1, recordLoss := (s.ringPort p).recordLoss + 1 })
  else s

/-- The oldest record leaves a full ring (R119 step 1, R120). -/
def evictIfFull (s : State) : State :=
  if 256 ≤ s.rr.count then
    let o := s.rr.oldest
    let s := { s with rr := { s.rr with ring := s.rr.ring.tail } }
    evictCursor o .p3 (evictCursor o .p2 (evictCursor o .p1 s))
  else s

/-- An entry joins a port's alert queue, dropping the head of a full one; ALERT is set (R122, R123). -/
def queueAlert (e : AlertEntry) (p : PortId) (s : State) : State :=
  let q := s.ringPort p
  if 16 ≤ q.alerts.length then
    raiseAt p Notice.alert (raiseAt p Notice.lost
      (s.withRingPort p { q with alerts := q.alerts.tail ++ [e], alertLoss := q.alertLoss + 1 }))
  else raiseAt p Notice.alert (s.withRingPort p { q with alerts := q.alerts ++ [e] })

/-- A committed record is offered to one port's filter and subscription (R119 step 3). -/
def offerRecord (x : Record) (p : PortId) (s : State) : State :=
  if s.disabled p then s
  else
    let s := if passesFilter (s.ringPort p) x then raiseAt p Notice.newRecord s else s
    if admits (s.ringPort p).subscription x.alert then queueAlert (alertEntry x) p s else s

/-- The commit of a record (R119): eviction from a full ring, the next sequence number, the offer to each port, and the
lane's committed record count (R178). The record's own number field is set here. -/
def commitRecord (x : Record) (s : State) : State :=
  let s := evictIfFull s
  let x := { x with seq := s.rr.next }
  let s := { s with rr := { s.rr with ring := s.rr.ring ++ [x], next := s.rr.next + 1 } }
  let s := s.countCommitted x.lane
  offerRecord x .p3 (offerRecord x .p2 (offerRecord x .p1 s))

/-- The FETCH walk over the records from the cursor on: the cursor after it and the record returned (R127). -/
def fetchWalk (q : RingPort) : List Record → Seq → Seq × Option Record
  | [], cursor => (cursor, none)
  | x :: rest, cursor => if passesFilter q x then (cursor + 1, some x) else fetchWalk q rest (cursor + 1)

/-- The records from a cursor, between the oldest held number and the next (R120), to the newest. -/
def Rr.fromCursor (r : Rr) (cursor : Seq) : List Record :=
  if r.age cursor ≤ r.count then r.ring.drop (r.count - r.age cursor) else []

/-- How READ_SEQ finds a sequence number (R117, R128). -/
inductive SeqPlace where
  | held (x : Record)
  | gone
  | notYet
  deriving DecidableEq, Repr

/-- The age class of a sequence number (R117). -/
def Rr.place (r : Rr) (s : Seq) : SeqPlace :=
  match r.record? s with
  | some x => .held x
  | none => if r.count < r.age s ∧ r.age s ≤ 2 ^ 31 then .gone else .notYet

/-- The cursor that a SEEK target names, if it is admitted (R130). -/
def Rr.seekCursor (r : Rr) (target : Nat) (s : Seq) : Option Seq :=
  match target with
  | 0 => some r.oldest
  | 1 => some (if r.count = 0 then r.next else r.next - 1)
  | 2 => some r.next
  | 3 => if r.age s ≤ r.count then some s else none
  | _ => none

end Sys2Proof.Machine
end

