-- ==== Sys2Proof/Machine/Assembly.lean ====
section
/-! DEFINITION. The Vehicle Assembler (Chapter 5): opening, axles arriving, presence events, closure with its record, and
the timers. -/

namespace Sys2Proof.Machine

/-! ### Settings in ticks (R75) -/

def closeDelayTicks (s : State) : Nat := msTicks s.set.site.closeDelay
def maxDurationTicks (s : State) : Nat := secondTicks s.set.site.maxDuration
def triggerTicks (s : State) : Nat := msTicks s.set.site.triggerWidth

/-- The close delay expiry of a delay that starts at this tick. -/
def closeExpiryFrom (s : State) : Option Time := some (later s.now (closeDelayTicks s))

/-! ### Closure (R86 to R90) -/

/-- The vehicle speed: the mean of the axle speeds, rounded half up (R88). -/
def vehicleSpeed (axles : List Axle) : Nat := roundHalfUp (axles.map (·.speed)).sum axles.length

/-- SPEED_VARIATION (R88). -/
def speedVaries (limit : Nat) (axles : List Axle) : Bool :=
  let speeds := axles.map (·.speed)
  let hi := speeds.foldl max 0
  let lo := speeds.foldl min hi
  decide (vehicleSpeed axles * limit < (hi - lo) * 1000)

/-- The largest gross load (R72). -/
def maxGross : Nat := 1048575

/-- The gross load: the sum of the axle loads, held at 1,048,575 (R72). -/
def grossLoad (axles : List Axle) : Nat := min (axles.map (·.load)).sum maxGross

/-- The flags of a closing vehicle (R89), with LOAD_SAT of a held gross (R72). -/
def vehicleFlags (s : State) (c : Context) (cause : Flags) : Flags :=
  flagUnion (c.axles.map (·.flags)) |||
  flagIf c.channelHeld Flag.channelHeld ||| flagIf c.calChanged Flag.calChanged |||
  flagIf c.continuation Flag.continuation ||| cause |||
  flagIf (speedVaries s.set.site.speedVariation c.axles) Flag.speedVariation |||
  flagIf (!c.presenceSeen) Flag.noPresence |||
  flagIf (decide (s.cc.revision = 0)) Flag.uncalibrated |||
  flagIf (decide (maxGross < (c.axles.map (·.load)).sum)) Flag.loadSat

/-- The axle entry of a record (R118). -/
def Axle.entry (a : Axle) : AxleEntry := ⟨a.time, a.speed, a.spacing, a.right, a.left, a.load, a.flags⟩

/-- The record of a vehicle that closes with axles; its number is given at commit (R90, R109, R118). -/
def vehicleRecord (s : State) (l : Lane) (c : Context) (cause : Flags) : Record :=
  let flags := vehicleFlags s c cause
  let gross := grossLoad c.axles
  let e := evaluate s.set c.axles gross flags
  { seq := 0, lane := l, openTime := c.openTime, closeTime := s.siteClock, axleCount := c.axles.length,
    speed := vehicleSpeed c.axles, gross := gross, code := e.code, profile := e.profile, groupCount := e.groupCount,
    alert := e.alert, worst := e.worst, firstTemp := (c.firstTemp.map (·.1)).getD 0,
    firstFt := (c.firstTemp.map (·.2)).getD 0, revision := s.cc.revision, flags := flags,
    axles := c.axles.map Axle.entry }

/-- A lane's trigger starts or extends its pulse, and its count rises (R111). -/
def startTrigger (l : Lane) (s : State) : State :=
  (s.withTrigger l (some (later s.now (triggerTicks s)))).countTrigger l

/-- The closure of the test vehicle completes the test (R164). -/
def finishTest (l : Lane) (axles : List Axle) (seq : Seq) (s : State) : State :=
  match s.ltg.test with
  | some t => if t.lane = l then completeTest t (testRatio t axles) (some seq) s else s
  | none => s

/-- A vehicle closes (R86): a ghost without axles (R87), else a record with its trigger, and the context is EMPTY. -/
def closeVehicle (l : Lane) (cause : Flags) (s : State) : State :=
  let c := s.context l
  if c.axles = [] then (s.withContext l emptyContext).countGhost l
  else
    let x := vehicleRecord s l c cause
    let seq := s.rr.next
    let s := commitRecord x s
    let s := if x.alert = .enforceable then startTrigger l s else s
    let s := s.withContext l emptyContext
    finishTest l c.axles seq s

/-! ### Opening (R76) -/

/-- The vehicle-opened mark of a test on this lane (R163). -/
def markVehicleOpened (l : Lane) (s : State) : State :=
  match s.ltg.test with
  | some t => if t.lane = l then { s with ltg := { s.ltg with test := some { t with vehicleOpened := true } } } else s
  | none => s

/-- A vehicle opens with the context given; CHANNEL_HELD follows the lane's hold indication (R76). -/
def openVehicle (l : Lane) (c : Context) (s : State) : State :=
  markVehicleOpened l (s.withContext l { c with channelHeld := s.laneHeld l })

/-- A vehicle opened by presence, with no axles: OPEN if the lane is occupied, else CLOSING from this tick (R83, R84). -/
def openByPresence (l : Lane) (tick : Time) (stamp : Stamp) (s : State) : State :=
  let occ := s.isOccupied l
  openVehicle l
    { emptyContext with
      state := if occ then .opened else .closing
      openTick := tick
      openTime := stamp
      presenceSeen := true
      closeExpiry := if occ then none else closeExpiryFrom s } s

/-- A vehicle opened by an axle (R77, R79, R80): a pending successor is consumed; the state follows the occupancy; T and
Ft are copied (R82). -/
def openByAxle (l : Lane) (a : Axle) (successor : Option (Time × Stamp)) (continuation : Bool) (s : State) : State :=
  let occ := s.isOccupied l
  openVehicle l
    { emptyContext with
      state := if occ then .opened else .closing
      openTick := (successor.map (·.1)).getD s.now
      openTime := (successor.map (·.2)).getD s.siteClock
      presenceSeen := occ || successor.isSome
      closeExpiry := if occ then none else closeExpiryFrom s
      axles := [{ a with spacing := none }]
      firstTemp := some ((s.ptu.lanes.get l).temp, (s.ptu.lanes.get l).applied)
      continuation := continuation } s

/-! ### Axles arriving (R77 to R82) -/

/-- The spacing in cm from one axle to the next (R78). -/
def axleSpacing (last new : Axle) : Nat :=
  roundHalfUp (roundHalfUp (last.speed + new.speed) 2 * elapsed new.time last.time) 163840

/-- The current vehicle closes and a new one opens with the axle, in split and truncation (R79, R80). -/
def closeAndReopen (l : Lane) (a : Axle) (cause : Flags) (continuation : Bool) (s : State) : State :=
  openByAxle l a (s.context l).successor continuation (closeVehicle l cause s)

/-- The axle joins the current vehicle (R81, R82). -/
def appendAxle (l : Lane) (a : Axle) (s : State) : State :=
  let c := s.context l
  s.withContext l
    { c with
      axles := c.axles ++ [a]
      firstTemp := if c.axles = [] then some ((s.ptu.lanes.get l).temp, (s.ptu.lanes.get l).applied) else c.firstTemp
      presenceSeen := c.presenceSeen || (decide (c.state = .opened) && s.isOccupied l)
      closeExpiry := if c.state = .closing ∧ c.successor = none then closeExpiryFrom s else c.closeExpiry }

/-- An axle reaches its lane's context (R77 to R81). -/
def axleArrives (l : Lane) (a : Axle) (s : State) : State :=
  let c := s.context l
  if c.state = .empty then openByAxle l a none false s
  else match c.axles.getLast? with
  | none => appendAxle l { a with spacing := none } s
  | some last =>
    if timeDiff a.time last.time ≤ 0 ∨ s.set.site.splitDistance < axleSpacing last a then closeAndReopen l a 0 false s
    else if 16 ≤ c.axles.length then closeAndReopen l a Flag.truncated true s
    else appendAxle l { a with spacing := some (axleSpacing last a) } s

/-! ### Presence events (R83) -/

/-- The lane's occupancy begins at this tick and its context takes OCCUPIED (R73, R83). A test on the lane is aborted
first (R74). -/
def takeOccupied (l : Lane) (s : State) : State :=
  let s := abortTestOn l s
  let s := s.withOccupied l (some s.now)
  let c := s.context l
  match c.state with
  | .empty => openByPresence l s.now s.siteClock s
  | .opened => s.withContext l { c with presenceSeen := true }
  | .closing =>
    if c.presenceSeen = false then s.withContext l { c with state := .opened, presenceSeen := true, closeExpiry := none }
    else if c.successor = none then s.withContext l { c with successor := some (s.now, s.siteClock) }
    else s

/-- The lane's occupancy ends and its context takes RELEASED (R73, R83). -/
def takeReleased (l : Lane) (s : State) : State :=
  let s := s.withOccupied l none
  let c := s.context l
  match c.state with
  | .opened => s.withContext l { c with state := .closing, closeExpiry := closeExpiryFrom s }
  | .empty | .closing => s

/-- A presence re-read: the event that the reading gives, if it differs from the occupancy state (R74). -/
def rereadPresence (l : Lane) (s : State) : State :=
  if s.readsOccupied l = true ∧ s.isOccupied l = false then takeOccupied l s
  else if s.readsOccupied l = false ∧ s.isOccupied l = true then takeReleased l s
  else s

/-! ### Timers (R84, R85) -/

/-- The pending successor of a closed vehicle opens, if there is one (R84). -/
def openSuccessor (l : Lane) (successor : Option (Time × Stamp)) (s : State) : State :=
  match successor with
  | some (t, stamp) => openByPresence l t stamp s
  | none => s

/-- The close delay expiry is reached: the vehicle closes and a pending successor opens (R84). -/
def closeDelayExpires (l : Lane) (s : State) : State :=
  openSuccessor l (s.context l).successor (closeVehicle l 0 s)

/-- A context's open sample time lies max duration ticks or more in the past (R85). -/
def durationReached (s : State) (t : Time) : Bool := decide (maxDurationTicks s ≤ elapsed s.now t)

/-- The duration limit is reached: the vehicle closes with TIMEOUT and a pending successor opens, closing at once where
its own limit has passed (R85). -/
def durationExpires (l : Lane) (s : State) : State :=
  let s := openSuccessor l (s.context l).successor (closeVehicle l Flag.timeout s)
  if (s.context l).state ≠ .empty ∧ durationReached s (s.context l).openTick then closeVehicle l Flag.timeout s else s

/-! ### What is due -/

def closeDelayDue (s : State) (l : Lane) : Bool :=
  match (s.context l).state, (s.context l).closeExpiry with
  | .closing, some t => reached s.now t
  | _, _ => false

def durationDue (s : State) (l : Lane) : Bool :=
  decide ((s.context l).state ≠ .empty) && durationReached s (s.context l).openTick

/-- The activation condition of R151: tested at every event that leaves a context EMPTY. -/
def allEmpty (s : State) : Bool := Ix4.all.all fun l => decide ((s.context l).state = .empty)

/-- In COMMIT_WAIT with every context EMPTY the activation's moment has come (R151), unless the commit's own tick brings
its activation on. -/
def noteEmptied (s : State) : State :=
  if s.cc.waiting && !s.cc.activationNear && allEmpty s then { s with cc := { s.cc with activationDue := true } } else s

end Sys2Proof.Machine
end

