-- ==== Sys2Proof/Machine/Loads.lean ====
section
/-! DEFINITION. The Load Computer (Chapter 4): the speed factor, row wheel, wheel and axle loads, and the axle's flags. -/

namespace Sys2Proof.Machine

/-- An axle as the Crossing Former hands it on (R34). -/
structure FormedAxle where
  lane      : Lane
  time      : Time
  speed     : Nat
  rightRows : List Wheel
  leftRows  : List Wheel
  flags     : Flags
  deriving DecidableEq, Repr

/-- The speed factor Fs of a speed (R62). -/
def speedFactor (set : CalSet) (v : Nat) : Nat := (interpolate (speedPoints set) v).toNat

/-- The speed lies outside the table's band (R63). -/
def outOfBand (set : CalSet) (v : Nat) : Bool :=
  decide (v < (set.speed.toList.getD 0 ⟨0, 0⟩).speed ∨ (set.speed.toList.getD 7 ⟨0, 0⟩).speed < v)

/-- The four stages of a row wheel load (R64). -/
def stagedLoad (area v gain ft fs : Nat) : Nat :=
  let p := roundHalfUp (area * v) 65536
  let w0 := roundHalfUp (p * gain) 4096
  let w1 := roundHalfUp (w0 * ft) 16384
  roundHalfUp (w1 * fs) 16384

/-- A row wheel load, held at 32,767, and whether it was held (R65). -/
def rowLoad (set : CalSet) (v ft fs : Nat) (w : Wheel) : Nat × Bool :=
  let x := stagedLoad w.area v (set.channels.chan w.channel).gain ft fs
  (min x 32767, decide (32767 < x))

/-- A side's wheel load from its row wheel loads (R67). -/
def wheelLoad : List Nat → Option Nat
  | [] => none
  | [x] => some x
  | x :: y :: _ => some (roundHalfUp (x + y) 2)

/-- The axle load (R68). -/
def axleLoad : Option Nat → Option Nat → Nat
  | some r, some l => r + l
  | some r, none => 2 * r
  | none, some l => 2 * l
  | none, none => 0

/-- The computation of an axle's loads and flags (R59, R69, R70, R71). -/
def computeLoads (s : State) (f : FormedAxle) : Axle :=
  let set := s.set
  let ft := (s.ptu.lanes.get f.lane).applied
  let fs := speedFactor set f.speed
  let r := f.rightRows.map (rowLoad set f.speed ft fs)
  let l := f.leftRows.map (rowLoad set f.speed ft fs)
  let right := wheelLoad (r.map (·.1))
  let left := wheelLoad (l.map (·.1))
  { time := f.time, speed := f.speed, spacing := none, right := right, left := left, load := axleLoad right left,
    flags := f.flags |||
      flagIf (outOfBand set f.speed) Flag.speedOutOfBand |||
      flagIf (s.ptu.lanes.get f.lane).substituted Flag.tempSubstituted |||
      flagIf ((r ++ l).any (·.2)) Flag.loadSat |||
      flagIf ((f.rightRows ++ f.leftRows).any (·.areaSat)) Flag.areaSat
    rightRows := f.rightRows, leftRows := f.leftRows }

/-- The axle is computed and handed to its lane's context, in one event (R34, R59, R60, R71). -/
def handOnAxle (f : FormedAxle) (s : State) : State := axleArrives f.lane (computeLoads s f) s

end Sys2Proof.Machine
end

