-- ==== Sys2Proof/Machine/Crossings.lean ====
section
/-! DEFINITION. The Crossing Former (Chapter 2): half-hit pools, pairing, straddles, row-A queues, row-B matching and axle
formation. -/

namespace Sys2Proof.Machine

/-! ### Axle formation (R32, R33) -/

/-- The row wheels of a side, row A first. -/
def sideWheels (a b : Option Wheel) : List Wheel := a.toList ++ b.toList

/-- A wheel present in one row only (R33). -/
def singleRow (a b : Option Wheel) : Bool := a.isSome != b.isSome

/-- The axle of a row-A and a row-B crossing with the time between them (R32, R33, R34). -/
def formAxle (s : State) (a b : Crossing) (dt : Nat) : FormedAxle :=
  let right := sideWheels a.right b.right
  let left := sideWheels a.left b.left
  { lane := b.lane, time := a.time, speed := roundHalfUp ((s.set.lanes.get b.lane).spacing * 16384) dt,
    rightRows := right, leftRows := left,
    flags :=
      flagIf (singleRow a.right b.right || singleRow a.left b.left) Flag.singleRow |||
      flagIf (right.isEmpty || left.isEmpty) Flag.oneSided |||
      flagIf (a.straddle || b.straddle) Flag.straddle |||
      flagIf (a.channelHeld || b.channelHeld) Flag.channelHeld |||
      flagIf (a.test || b.test) Flag.test |||
      flagIf ((right ++ left).any (·.suspect)) Flag.channelSuspect }

/-! ### The row-A queue (R29, R30) -/

/-- The place of a crossing in ascending time, behind those of equal time (R29). -/
def insertCrossing (x : Crossing) : List Crossing → List Crossing
  | [] => [x]
  | y :: ys => if timeDiff x.time y.time < 0 then x :: y :: ys else y :: insertCrossing x ys

/-- A row-A crossing joins its lane's queue; a full queue first drops its head as a row-A orphan (R29). -/
def joinRowA (x : Crossing) (s : State) : State :=
  let q := s.queue x.lane
  if 16 ≤ q.length then (s.withQueue x.lane (insertCrossing x q.tail)).countOrphanA x.lane
  else s.withQueue x.lane (insertCrossing x q)

/-- A queue entry is older than the lane's Δt_max (R30). -/
def entryExpired (s : State) (l : Lane) (x : Crossing) : Bool :=
  decide ((s.xf.windows.get l).dtMax < elapsed s.now x.time)

/-- Every entry of the lane older than Δt_max is dropped as a row-A orphan (R30). -/
def expireQueue (l : Lane) (s : State) : State :=
  let gone := (s.queue l).filter (entryExpired s l)
  let kept := (s.queue l).filter fun x => !entryExpired s l x
  let s := s.withQueue l kept
  { s with xf := { s.xf with orphanA := s.xf.orphanA.set l (s.xf.orphanA.get l + BitVec.ofNat 32 gone.length) } }

/-! ### Row-B matching (R31) -/

/-- The match loop of a row-B crossing against its lane's queue (R31). -/
def matchRowB (b : Crossing) : List Crossing → State → State
  | [], s => (s.withQueue b.lane []).countOrphanB b.lane
  | h :: rest, s =>
    let dt := timeDiff b.time h.time
    let w := s.xf.windows.get b.lane
    if (w.dtMax : Int) < dt then matchRowB b rest (s.countOrphanA b.lane)
    else if dt < (w.dtMin : Int) then (s.withQueue b.lane (h :: rest)).countOrphanB b.lane
    else handOnAxle (formAxle s h b dt.toNat) (s.withQueue b.lane rest)

/-- A row-B crossing is matched against its lane's queue. An entry that expires at this tick is a row-A orphan whichever is
taken first (R30), so it leaves the queue before the match. -/
def meetRowB (x : Crossing) (s : State) : State :=
  let s := expireQueue x.lane s
  matchRowB x (s.queue x.lane) s

/-- A crossing goes on at the tick it is formed (R27). -/
def routeCrossing (x : Crossing) (s : State) : State :=
  match x.row with
  | .a => joinRowA x s
  | .b => meetRowB x s

/-! ### Pairing (R21 to R25) -/

/-- The wheel of a hit (R27). -/
def PoolHit.wheel (h : PoolHit) : Wheel := ⟨h.channel, h.area, h.areaSat, h.suspect⟩

/-- The own-lane candidates of a hit in its pool, under a window (R22). -/
def ownCandidates (pool : List PoolHit) (h : PoolHit) (window : Nat) : List PoolHit :=
  pool.filter fun k => decide (k.channel.half = h.channel.half.opposite ∧ timeGap k.time h.time ≤ window)

/-- The candidate closest in hit time; of two equally close the one received earlier (R22, R23). -/
def closest (h : PoolHit) (candidates : List PoolHit) : Option PoolHit :=
  candidates.foldl (fun best k =>
    match best with
    | none => some k
    | some b =>
      if timeGap k.time h.time < timeGap b.time h.time ∨
        (timeGap k.time h.time = timeGap b.time h.time ∧ timeDiff k.receipt b.receipt < 0)
      then some k else some b) none

/-- The lane beside a half across a boundary (00_scope.md 4.1, R23). -/
def neighbourLane : Lane → Half → Option Lane
  | .one, .left => some .two
  | .two, .left => some .three
  | .three, .left => some .four
  | .four, .left => none
  | .one, .right => none
  | .two, .right => some .one
  | .three, .right => some .two
  | .four, .right => some .three

/-- The straddle candidates of a deciding hit in the neighbour lane's pool (R23). -/
def straddleCandidates (pool : List PoolHit) (h : PoolHit) : List PoolHit :=
  pool.filter fun k =>
    decide (k.channel.half = h.channel.half.opposite ∧ timeGap k.time h.time ≤ h.window) &&
    (ownCandidates pool k h.window).isEmpty

/-- The neighbour lane and the straddle partner of a deciding hit (R23). -/
def straddlePartner (s : State) (h : PoolHit) : Option (Lane × PoolHit) :=
  match neighbourLane h.channel.lane h.channel.half with
  | none => none
  | some m =>
    if s.mode h.channel.lane = .opened ∧ s.mode m = .opened then
      (closest h (straddleCandidates (s.pool m h.channel.row) h)).map fun k => (m, k)
    else none

/-- The time of a crossing of two hits: the earlier plus half the difference, floored (R22). -/
def middleTime (t u : Time) : Time :=
  if 0 ≤ timeDiff u t then later t (timeGap u t / 2) else later u (timeGap u t / 2)

/-- The lane of a straddle across the boundary of lanes n and n + 1, by presence (R24). -/
def straddleLane (s : State) (n m : Lane) : Lane :=
  match s.va.occupied.get n, s.va.occupied.get m with
  | none, some _ => m
  | some t, some u => if timeDiff u t < 0 then m else n
  | _, none => n

/-- The crossing of two hits of one lane-row (R22, R37). -/
def twoSided (s : State) (h k : PoolHit) : Crossing :=
  let r := if h.channel.half = .right then h else k
  let l := if h.channel.half = .right then k else h
  ⟨h.channel.lane, h.channel.row, middleTime h.time k.time, some r.wheel, some l.wheel, false, false, false,
    decide (s.mode h.channel.lane = .test)⟩

/-- The STRADDLE crossing of a hit and its partner: the RIGHT wheel is lane n's LEFT half hit (R23, R24). -/
def straddleCrossing (s : State) (h k : PoolHit) : Crossing :=
  let low := if h.channel.half = .left then h else k
  let high := if h.channel.half = .left then k else h
  let lane := straddleLane s low.channel.lane high.channel.lane
  ⟨lane, h.channel.row, middleTime h.time k.time, some low.wheel, some high.wheel, true, false, false,
    decide (s.mode lane = .test)⟩

/-- The ONE_SIDED crossing of a hit without a partner (R25, R37). -/
def oneSidedCrossing (s : State) (h : PoolHit) : Crossing :=
  let c := h.channel
  ⟨c.lane, c.row, h.time, if c.half = .right then some h.wheel else none, if c.half = .left then some h.wheel else none,
    false, true, decide ((s.channel ⟨c.lane, c.row, c.half.opposite⟩).state = .held), decide (s.mode c.lane = .test)⟩

/-- A hit of its lane-row's pool decides (R21): own-lane, straddle or one-sided; the crossing goes on at once. -/
def decideHit (h : PoolHit) (s : State) : State :=
  let l := h.channel.lane
  let r := h.channel.row
  let pool := (s.pool l r).erase h
  match closest h (ownCandidates pool h h.window) with
  | some k => routeCrossing (twoSided s h k) (s.withPool l r (pool.erase k))
  | none =>
    match straddlePartner s h with
    | some (m, k) =>
      routeCrossing (straddleCrossing s h k) ((s.withPool l r pool).withPool m r ((s.pool m r).erase k))
    | none => routeCrossing (oneSidedCrossing s h) (s.withPool l r pool)

/-! ### The pool (R20, R26) -/

/-- The new hit stands before another: earlier hit time, or equal time and receipt with the RIGHT half first (R20). -/
def standsBefore (h k : PoolHit) : Bool :=
  decide (timeDiff h.time k.time < 0 ∨
    (h.time = k.time ∧ h.receipt = k.receipt ∧ h.channel.half = .right ∧ k.channel.half = .left))

/-- The place of a hit in its pool (R20). -/
def insertHit (h : PoolHit) : List PoolHit → List PoolHit
  | [] => [h]
  | k :: ks => if standsBefore h k then h :: k :: ks else k :: insertHit h ks

/-- A hit joins its lane-row's pool; where the pool already held eight, its oldest hit decides at once (R20, R26). -/
def joinPool (h : PoolHit) (s : State) : State :=
  let l := h.channel.lane
  let r := h.channel.row
  let full := decide (8 ≤ (s.pool l r).length)
  let pool := insertHit h (s.pool l r)
  let s := s.withPool l r pool
  if full then (match pool with | k :: _ => decideHit k s | [] => s) else s

/-- The pairing deadline of the hit at a place of a pool is reached (R21). -/
def pairingDue (s : State) (l : Lane) (r : Row) (index : Nat) : Option PoolHit :=
  match (s.pool l r)[index]? with
  | some h => if reached s.now h.deadline then some h else none
  | none => none

end Sys2Proof.Machine
end

