-- ==== Sys2Proof/Machine/Strips.lean ====
section
/-! DEFINITION. The channel events of the Strip Front End (R4, R9, R10, R11, R12) and the site second of the Pavement
Temperature Unit (R2, R41, R45). -/

namespace Sys2Proof.Machine

/-! ### Channel events -/

/-- A SETTLING channel's settling count has reached 8,192 (R4). -/
def settlingDone (c : Channel) : Bool := decide (c.state = .settling ∧ settlingSamples ≤ c.settling)

/-- The eighth consecutive quiet sample has come (R9). -/
def hitDone (c : Channel) : Bool := decide (c.state = .inHit ∧ quietSamples ≤ c.quietRun)

/-- The hit has run past the max hit duration (R8). -/
def hitTooLong (c : Channel) : Bool := decide (c.state = .inHit ∧ c.overLong = true)

/-- A HELD channel's hold count has reached 8,192 (R12). -/
def holdDone (c : Channel) : Bool := decide (c.state = .held ∧ settlingSamples ≤ c.hold)

/-- The channel goes to IDLE at the end of its SETTLING period (R4). -/
def settlingCompletes (c : ChannelId) (s : State) : State := s.withChannel c { s.channel c with state := .idle }

/-- A hit's duration in samples (R9). -/
def hitDuration (c : Channel) : Nat := elapsed c.tLast c.tStart + 1

/-- The hit handed to the Crossing Former, with its receipt time, the Wp in force and its deadline (R10, R20). -/
def handedHit (s : State) (id : ChannelId) (c : Channel) : PoolHit :=
  { channel := id, time := later c.tStart ((hitDuration c - 1) / 2), area := c.area, areaSat := c.saturated,
    suspect := decide (c.health = .suspect), receipt := s.now, window := s.set.site.wp,
    deadline := later s.now s.set.site.wp }

/-- A hit ends: a noise hit of 1 or 2 samples, or a hit handed to the pool; the channel returns to IDLE (R9). -/
def hitEnds (id : ChannelId) (s : State) : State :=
  let c := s.channel id
  let idle := s.withChannel id c.toIdle
  if hitDuration c ≤ 2 then idle.countNoise id.lane else joinPool (handedHit s id c) idle

/-- An open or closing context of the lane is marked CHANNEL_HELD (R11, R91). -/
def markHeld (l : Lane) (s : State) : State :=
  if (s.context l).state = .empty then s else s.withContext l { s.context l with channelHeld := true }

/-- The max hit duration is exceeded: the hit is discarded and the channel goes to HELD (R11). -/
def hitOverruns (id : ChannelId) (s : State) : State :=
  raiseAll Notice.fault (markHeld id.lane ((s.withChannel id (s.channel id).toHeld).countHeld id.lane))

/-- The hold count reaches 8,192: the channel goes to SETTLING (R12). -/
def holdEnds (id : ChannelId) (s : State) : State := s.withChannel id (s.channel id).toSettling

/-! ### The site second -/

/-- The four probes after their readings of a site second, each with whether it sets FAULT (R41). -/
def probesRead (s : State) : Quad (Probe × Bool) :=
  Quad.of fun i => readProbeInput s.set.site (s.pins.probes.get i) (s.ptu.probes.get i)

/-- The site second: the seconds count increments, the probes are read, then every lane is updated (R2, R41, R45). -/
def secondPasses (s : State) : State :=
  let read := probesRead s
  let probes := Quad.of fun i => (read.get i).1
  let lanes := Quad.of fun l => updateLaneTemp s.set probes (s.set.lanes.get l) (s.ptu.lanes.get l)
  let s := { s with
    clock := { s.clock with seconds := s.clock.seconds + 1, secondDue := false }
    ptu := ⟨probes, lanes⟩ }
  if Ix4.all.any fun i => (read.get i).2 then raiseAll Notice.fault s else s

end Sys2Proof.Machine
end

