-- ==== Sys2Proof/Machine/Control.lean ====
section
/-! DEFINITION. The Calibration Controller's events (Chapter 8) and the restart of the whole device (R156, R187):
activation, persist, claim release, restart, lane closing and opening. -/

namespace Sys2Proof.Machine

/-! ### Claim and commit -/

/-- The claim released and the pending set reverted to the active set (R146). -/
def revertEdits (s : State) : State :=
  { s with cc := { s.cc with claim := none, claimExpiry := none, edits := s.cc.active } }

/-- The claim idle expiry is reached (R147). -/
def claimIdleDue (s : State) : Bool :=
  s.cc.claim.isSome && !s.cc.waiting && (match s.cc.claimExpiry with | some t => reached s.now t | none => false)

/-- The claim is released by its idle expiry, with MAINT at all ports (R147). -/
def claimExpires (s : State) : State := raiseAll Notice.maint (revertEdits s)

/-- The commit timeout expiry is reached in COMMIT_WAIT (R151). -/
def commitTimeoutDue (s : State) : Bool :=
  s.cc.waiting && (match s.cc.commitExpiry with | some t => reached s.now t | none => false)

/-- The commit timeout brings on the activation (R151). -/
def commitTimesOut (s : State) : State := { s with cc := { s.cc with commitExpiry := none, activationDue := true } }

/-! ### Activation (R152, R153) -/

/-- A channel compares its new enabled setting with the old (R15). -/
def activateChannel (mode : LaneMode) (old new : Bool) (c : Channel) : Channel :=
  match old, new with
  | true, false => c.toOff
  | false, true => if mode = .closed then c else c.toSettling
  | true, true => c
  | false, false => c

/-- The SFE takes up the new set (R15). -/
def activateSfe (old : CalSet) (s : State) : State :=
  let channel (c : ChannelId) : Channel :=
    activateChannel (s.mode c.lane) (old.channels.chan c).enabled (s.set.channels.chan c).enabled (s.channel c)
  { s with sfe := { s.sfe with channels := Quad.ofChan channel } }

/-- The XF takes up the new set: the windows are recomputed and older queue entries expire (R38). -/
def activateXf (s : State) : State :=
  let s := { s with xf := { s.xf with windows := transitWindows s.set } }
  Ix4.all.foldl (fun s l => expireQueue l s) s

/-- The PTU takes up the new set: probes, then lanes (R54, R55). -/
def activatePtu (old : CalSet) (s : State) : State :=
  let probes := Quad.of fun i => activateProbe (old.probes.get i) (s.set.probes.get i) (s.ptu.probes.get i)
  { s with ptu := ⟨probes, Quad.of fun l => freshLaneTemp s.set probes (s.set.lanes.get l)⟩ }

/-- Every OPEN or CLOSING context is marked CAL_CHANGED (R91). -/
def markCalChanged (s : State) : State :=
  let context (l : Lane) : Context :=
    if (s.context l).state = .empty then s.context l else { s.context l with calChanged := true }
  { s with va := { s.va with contexts := Quad.of context } }

/-- A context older than the new max duration closes with TIMEOUT (R92). -/
def activateDuration (l : Lane) (s : State) : State := if durationDue s l then durationExpires l s else s

/-- A lane that is not CLOSED and whose presence polarity changes is re-read (R74, R92). -/
def activatePolarity (old : CalSet) (l : Lane) (s : State) : State :=
  if s.mode l ≠ .closed ∧ (old.lanes.get l).presencePolarity ≠ (s.set.lanes.get l).presencePolarity
  then rereadPresence l s else s

/-- The VA takes up the new set (R91, R92): the marks come before the closures, as R92 has it. DESIGN CHOICE
(notes/assumptions/28.md): the lanes come in the order L1 to L4, which R90 leaves open, and every TIMEOUT comes before every
re-read, which R92 leaves open. -/
def activateVa (old : CalSet) (s : State) : State :=
  let s := markCalChanged s
  let s := Ix4.all.foldl (fun s l => activateDuration l s) s
  Ix4.all.foldl (fun s l => activatePolarity old l s) s

/-- The persist starts: the store's validity mark is erased (R154). -/
def startPersist (s : State) : State :=
  { s with cc := { s.cc with persist := some s.now, store := { s.cc.store with mark := false } } }

/-- The pending set is copied into the active set and the revision rises (R152 step 1). -/
def adoptEdits (s : State) : State :=
  { s with cc := { s.cc with active := s.cc.edits, revision := s.cc.revision + 1 } }

/-- The claim released and the commit state IDLE after the take-up (R152 steps 3 and 4). -/
def endCommit (s : State) : State :=
  { s with cc := { s.cc with
      claim := none, claimExpiry := none, waiting := false, commitExpiry := none, activationDue := false,
      activationNear := false } }

/-- The activation (R152). DESIGN CHOICE (notes/assumptions/28.md): the blocks take up the set in the order SFE, XF, PTU, VA,
which R153 leaves open. -/
def activate (s : State) : State :=
  let old := s.cc.active
  let s := adoptEdits s
  let s := activateVa old (activatePtu old (activateXf (activateSfe old s)))
  startPersist (raiseAll Notice.maint (endCommit s))

/-! ### Persist (R154) -/

/-- Ticks from a persist's start to its earliest and latest completion: 200 ms and 800 ms (R154, notes/assumptions/10.md). -/
def persistEarliest : Nat := 3277
def persistLatest : Nat := 13107

/-- A persist runs and has run at least so many ticks. -/
def persistRan (s : State) (n : Nat) : Bool :=
  match s.cc.persist with
  | some t => decide (n ≤ elapsed s.now t)
  | none => false

/-- The store after a persist whose read-back was equal (R154). -/
def storedSet (s : State) : Store := ⟨true, s.cc.active, s.cc.revision, true⟩

/-- The persist completes with its outcome; a pending restart then takes effect (R154, R156). DESIGN CHOICE
(notes/assumptions/29.md): behind the absent mark, during a persist and after a FAILED one, the store keeps its former
contents; no rule reads them. -/
def persistCompletes (equal : Bool) (s : State) : State :=
  let s := { s with cc := { s.cc with
    persist := none
    storeState := if equal then .valid else .failed
    store := if equal then storedSet s else s.cc.store
    restartDue := s.cc.restartDue || s.cc.restartPending } }
  raiseAll (if equal then Notice.maint else Notice.fault) s

/-! ### Restart (R156, R187) -/

/-- A restart request: it takes effect at this tick, or waits behind a persist (R156). -/
def requestRestart (s : State) : State :=
  if s.cc.persist.isSome then { s with cc := { s.cc with restartPending := true } }
  else { s with cc := { s.cc with restartDue := true } }

/-- The CC at a restart (R156). -/
def restartCc (s : State) : State :=
  revertEdits { s with cc := { s.cc with
    waiting := false, commitExpiry := none, activationDue := false, activationNear := false, restartPending := false,
    restartDue := false } }

/-- The LTG at a restart: a test is aborted and every lane becomes OPEN (R168). -/
def restartLtg (s : State) : State :=
  let last := match s.ltg.test with
    | some t => some ⟨t.lane, t.pattern, .aborted, s.siteClock, none, none⟩
    | none => s.ltg.last
  { s with ltg := ⟨Quad.all .opened, none, last⟩ }

/-- The SFE at a restart: enabled channels SETTLING, disabled OFF, its lane counts zeroed (R19). -/
def restartSfe (s : State) : State :=
  let channel (c : ChannelId) : Channel :=
    if (s.set.channels.chan c).enabled then (s.channel c).toSettling else (s.channel c).toOff
  { s with sfe := ⟨Quad.ofChan channel, Quad.all 0, Quad.all 0⟩ }

/-- The XF at a restart: pools and queues emptied, orphan counts zeroed (R40). -/
def restartXf (s : State) : State :=
  { s with xf := { s.xf with
      pools := Quad.all ⟨[], []⟩, queues := Quad.all [], orphanA := Quad.all 0, orphanB := Quad.all 0 } }

/-- The VA's contexts discarded and ghost counts zeroed (R96 steps 1 and 2). -/
def restartContexts (s : State) : State :=
  { s with va := { s.va with contexts := Quad.all emptyContext, ghosts := Quad.all 0 } }

/-- The CLE at a restart: pulses ended, trigger counts zeroed (R116). -/
def restartCle (s : State) : State := { s with cle := ⟨Quad.all none, Quad.all 0⟩ }

/-- The RR at a restart: the ring emptied with its numbering kept, cursors, queues and losses (R135, R178). -/
def restartRr (s : State) : State :=
  let port (p : PortId) : RingPort :=
    if s.disabled p then s.ringPort p
    else { s.ringPort p with cursor := s.rr.next, alerts := [], recordLoss := 0, alertLoss := 0 }
  { s with rr := ⟨[], s.rr.next, Quad.all 0, Tri.of port⟩ }

/-- A port at a restart (R187): counts zeroed, flags cleared and MAINT set, the line following as if through empty. -/
def restartPort (now : Time) (p : Port) : Port :=
  let q := { p with frameErrors := 0, overruns := 0, flags := Notice.maint }
  if q.lineMode = .pulse then
    if q.unmasked ≠ 0 then startPulse now q else { q with pulse := none, reminderExpiry := none }
  else q

/-- The PN at a restart (R187). -/
def restartPn (s : State) : State :=
  { s with ports := Tri.of fun p => if s.disabled p then s.port p else restartPort s.now (s.port p) }

/-- Every lane's presence re-read (R96 step 3). -/
def rereadAll (s : State) : State := Ix4.all.foldl (fun s l => rereadPresence l s) s

/-- A restart takes effect (R187). DESIGN CHOICE (notes/assumptions/30.md): the SFE ends its holds before the presence re-read
opens a vehicle, which R187 leaves open. -/
def restartDevice (s : State) : State :=
  restartPn (rereadAll (restartRr (restartCle (restartContexts (restartXf (restartSfe (restartLtg (restartCc s))))))))

/-- What comes at once when it falls due, before any other event: the activation (R151) and the restart (R156). The
activation of a commit accepted with every context EMPTY is not so urgent: a restart request of its tick abandons it (R156),
and a DISCARD that is taken first cancels it (R148). -/
def settleUrgent (s : State) : State :=
  let s := if s.cc.activationDue then activate s else s
  if s.cc.restartDue then restartDevice s else s

/-! ### Lane closing and opening (R158, R159) -/

/-- A lane closes (R158). -/
def closeLane (l : Lane) (s : State) : State :=
  let s := if (s.context l).state = .empty then s else closeVehicle l Flag.interrupted s
  let s := s.withOccupied l none
  let s := s.withMode l .closed
  let s := forLaneChannels Channel.toOff l s
  let s := emptyCrossings l s
  s.withTrigger l none

/-- A lane opens from CLOSED (R159). -/
def openLane (l : Lane) (s : State) : State :=
  let s := s.withMode l .opened
  let s := l.channels.foldl (fun s c =>
    if (s.set.channels.chan c).enabled then s.withChannel c (s.channel c).toSettling else s) s
  rereadPresence l s

/-! ### Power (R154, R155) -/

/-- Supply is removed: a persist in progress leaves the store without its mark (R154). Only the store outlasts it. -/
def losePower (s : State) : State :=
  { s with
    powered := false
    cc := { s.cc with
      persist := none
      store := if s.cc.persist.isSome then { s.cc.store with mark := false } else s.cc.store } }

/-- Supply is applied: straps, calibration load, every block's power-on state (R155, R170, R188). -/
def applyPower (straps : Tri Strap) (s : State) : State :=
  let st := (losePower s).cc.store
  let cc := initialCc st
  { powered := true
    clock := initialClock
    pins := initialPins
    sfe := initialSfe cc.active
    xf := initialXf cc.active
    ptu := initialPtu cc.active
    va := initialVa
    cle := initialCle
    rr := initialRr straps
    cc := cc
    ltg := initialLtg
    ports := initialPorts straps st
    early := []
    freeIndex := s.freeIndex
    pending := s.pending }

/-- A command acts on a device that has supply, after what was due at once; an unpowered device does nothing. -/
def onLive (f : State → State) (s : State) : Result := .next (if s.powered then f (settleUrgent s) else s)

end Sys2Proof.Machine
end

