-- ==== Sys2Proof/Machine/Responses.lean ====
section
/-! DEFINITION. The coding of responses (R176, R189, 11.1 to 11.3): statuses, choice codes, the record head, axle pages,
alert entries, STATUS and COUNTERS. -/

namespace Sys2Proof.Machine

/-- A response status (R176). -/
inductive Status where
  | ok | clamped | accepted | empty | gone | notYet | range | denied | claimed | busy | invalid | unknown | badLength
  deriving DecidableEq, Repr

/-- The code of a status (11.1). -/
def statusCode : Status → Byte
  | .ok => 0x00
  | .clamped => 0x01
  | .accepted => 0x02
  | .empty => 0x03
  | .gone => 0x04
  | .notYet => 0x05
  | .range => 0x10
  | .denied => 0x11
  | .claimed => 0x12
  | .busy => 0x13
  | .invalid => 0x14
  | .unknown => 0x15
  | .badLength => 0x16

/-- A command's answer: its status and the fields after it. -/
structure Reply where
  status : Status
  fields : List Byte
  deriving DecidableEq, Repr

/-- A reply of the status alone. -/
def Status.alone (x : Status) : Reply := ⟨x, []⟩

/-- The response frame of a command: the code with the top bit set, the tag, the payload and the check value (R176). -/
def responseFrame (code tag : Byte) (r : Reply) : List Byte :=
  let payload := statusCode r.status :: r.fields
  let body := (code ||| 0x80) :: tag :: BitVec.ofNat 8 payload.length :: payload
  [0xC3, 0x3C] ++ body ++ crcBytes body

/-! ### Choice codes (R189) -/

def roleCode : Role → Nat
  | .enforcement => 0
  | .statistics => 1
  | .maintenance => 2
  | .disabled => 3

def rateCode : Rate → Nat
  | .b115200 => 0
  | .b460800 => 1
  | .b921600 => 2
  | .b1843200 => 3

def modeCode : LaneMode → Nat
  | .opened => 0
  | .closed => 1
  | .test => 2

def contextCode : ContextState → Nat
  | .empty => 0
  | .opened => 1
  | .closing => 2

def channelCode : ChannelState → Nat
  | .off => 0
  | .settling => 1
  | .idle => 2
  | .inHit => 3
  | .held => 4

def healthCode : Health → Nat
  | .good => 0
  | .suspect => 1
  | .untested => 2

def probeCode : ProbeState → Nat
  | .off => 0
  | .stale => 1
  | .holding => 2
  | .valid => 3

def claimCode : Option PortId → Nat
  | none => 0
  | some .p1 => 1
  | some .p2 => 2
  | some .p3 => 3

def storeCode : StoreState → Nat
  | .valid => 0
  | .failed => 1
  | .blank => 2

def outcomeCode : TestOutcome → Nat
  | .passed => 0
  | .suspect => 1
  | .aborted => 2

def formatCode : Format → Nat
  | .full => 0
  | .summary => 1

def subscriptionCode : Subscription → Nat
  | .off => 0
  | .enforceableOnly => 1
  | .all => 2

def stepCode : StepMode → Nat
  | .none => 0
  | .increment => 1

def lineModeCode : LineMode → Nat
  | .levelLow => 0
  | .levelHigh => 1
  | .pulse => 2

def alertCode : AlertKind → Nat
  | .none => 0
  | .advisory => 1
  | .enforceable => 2

def checkCode : CheckKind → Nat
  | .single => 0
  | .tandem => 1
  | .tridem => 2
  | .gross => 3

/-! ### Fields -/

/-- A timestamp in 6 bytes (R189). -/
def stampBytes (t : Stamp) : List Byte := bytesLE 4 t.seconds.toNat ++ bytesLE 2 t.tick

/-- A signed temperature in 2 bytes (R189). -/
def tempBytes (t : Int) : List Byte := bytesLE 2 (signed16 t)

/-- A signed temperature or its absent coding 8000h (R189). -/
def optTempBytes : Option Int → List Byte
  | some t => tempBytes t
  | none => bytesLE 2 0x8000

/-- A notice flag set in 1 byte (R189). -/
def noticeByte (f : NoticeSet) : List Byte := bytesLE 1 f.toNat

/-- The worst excess, check kind and check index of a record or alert entry (11.2). -/
def worstBytes : Option Worst → List Byte
  | some w => bytesLE 2 w.excess ++ choiceByte (checkCode w.kind) ++ optLE 1 w.index
  | none => bytesLE 2 0 ++ [0xFF, 0xFF]

/-- The record head, 43 bytes (11.2). -/
def headBytes (x : Record) : List Byte :=
  bytesLE 4 x.seq.toNat ++ bytesLE 1 (laneNumber x.lane) ++ stampBytes x.openTime ++ stampBytes x.closeTime ++
  bytesLE 1 x.axleCount ++ bytesLE 2 x.speed ++ bytesLE 4 x.gross ++ bytesLE 1 x.code ++ bytesLE 1 x.profile ++
  choiceByte (alertCode x.alert) ++ worstBytes x.worst ++ tempBytes x.firstTemp ++ bytesLE 2 x.firstFt ++
  bytesLE 4 x.revision.toNat ++ bytesLE 4 (recordFlagBits x.flags)

/-- An axle entry, 16 bytes (11.2). -/
def axleBytes (a : AxleEntry) : List Byte :=
  bytesLE 4 a.time.toNat ++ bytesLE 2 a.speed ++ optLE 2 a.spacing ++ optLE 2 a.right ++ optLE 2 a.left ++
  bytesLE 2 a.load ++ bytesLE 2 (axleFlagBits a.flags)

/-- An axle page from an axle index: the index, the number of entries and at most eight entries (R126, 11.2). -/
def pageBytes (x : Record) (first : Nat) : List Byte :=
  let page := (x.axles.drop (first - 1)).take 8
  bytesLE 1 first ++ bytesLE 1 page.length ++ page.flatMap axleBytes

/-- A record in a format (R126). -/
def recordBytes (f : Format) (x : Record) (first : Nat) : List Byte :=
  match f with
  | .full => headBytes x ++ pageBytes x first
  | .summary => headBytes x ++ bytesLE 1 x.groupCount

/-- An alert entry, 17 bytes (11.2). -/
def alertBytes (e : AlertEntry) : List Byte :=
  bytesLE 4 e.seq.toNat ++ bytesLE 1 (laneNumber e.lane) ++ bytesLE 1 e.code ++ choiceByte (alertCode e.alert) ++
  worstBytes e.worst ++ stampBytes e.closeTime

/-- A table pointer (R142). -/
def pointerBytes (p : Pointer) : List Byte :=
  choiceByte (tableCode p.table) ++ bytesLE 1 p.index ++ choiceByte (stepCode p.step)

/-- A port's filter: lane mask and class mask (R189). -/
def filterBytes (q : RingPort) : List Byte := bytesLE 1 q.laneMask.toNat ++ bytesLE 4 q.classMask.toNat

/-! ### STATUS (R177) and COUNTERS (R178) -/

/-- The lane group of STATUS. -/
def laneStatus (s : State) (l : Lane) : List Byte :=
  let x := s.ptu.lanes.get l
  choiceByte (modeCode (s.mode l)) ++ choiceByte (contextCode (s.context l).state) ++ boolByte (s.isOccupied l) ++
  boolByte (s.cle.triggers.get l).isSome ++ tempBytes x.temp ++ boolByte x.substituted ++ bytesLE 2 x.target ++
  bytesLE 2 x.applied

/-- The channel group of STATUS. -/
def channelStatus (s : State) (c : ChannelId) : List Byte :=
  let x := s.channel c
  choiceByte (channelCode x.state) ++ choiceByte (healthCode x.health) ++ bytesLE 2 (x.ratio.getD 0)

/-- The probe group of STATUS. -/
def probeStatus (s : State) (i : ProbeId) : List Byte :=
  let x := s.ptu.probes.get i
  choiceByte (probeCode x.state) ++ optTempBytes x.filtered

/-- The calibration group of STATUS. -/
def calibrationStatus (s : State) : List Byte :=
  bytesLE 4 s.cc.revision.toNat ++ choiceByte (claimCode s.cc.claim) ++ boolByte s.cc.waiting ++
  boolByte s.cc.persist.isSome ++ boolByte s.cc.restartPending ++ choiceByte (storeCode s.cc.storeState)

/-- The last test result, its absent fields coded by R189 (notes/assumptions/13.md). -/
def resultBytes : Option TestResult → List Byte
  | none => [0xFF, 0xFF, 0xFF, 0xFF, 0xFF, 0xFF, 0xFF, 0xFF, 0xFF] ++ List.replicate 8 0 ++ bytesLE 4 0
  | some t =>
    bytesLE 1 (laneNumber t.lane) ++ bytesLE 1 t.pattern ++ choiceByte (outcomeCode t.outcome) ++ stampBytes t.time ++
    ((t.ratios.getD [0, 0, 0, 0]).flatMap (bytesLE 2)) ++ bytesLE 4 ((t.record.map (·.toNat)).getD 0)

/-- The test group of STATUS. -/
def testStatus (s : State) : List Byte := optLE 1 (s.testLane.map laneNumber) ++ resultBytes s.ltg.last

/-- The ring group of STATUS. -/
def ringStatus (s : State) : List Byte := bytesLE 4 s.rr.oldest.toNat ++ bytesLE 4 s.rr.next.toNat

/-- The group of STATUS about the asking port. -/
def portStatus (s : State) (p : PortId) : List Byte :=
  let x := s.port p
  let q := s.ringPort p
  choiceByte (roleCode x.role) ++ choiceByte (rateCode x.rate) ++ bytesLE 4 q.cursor.toNat ++
  bytesLE 4 q.recordLoss.toNat ++ bytesLE 4 q.alertLoss.toNat ++ bytesLE 1 q.alerts.length ++ filterBytes q ++
  choiceByte (formatCode q.format) ++ choiceByte (subscriptionCode q.subscription) ++ pointerBytes x.pointer ++
  bytesLE 4 x.frameErrors.toNat ++ bytesLE 4 x.overruns.toNat ++ noticeByte x.flags ++ noticeByte x.mask ++
  choiceByte (lineModeCode x.lineMode) ++ boolByte x.reminder

/-- The STATUS snapshot (R177). -/
def statusBytes (s : State) (p : PortId) : List Byte :=
  stampBytes s.siteClock ++ Ix4.all.flatMap (laneStatus s) ++ ChannelId.all.flatMap (channelStatus s) ++
  Ix4.all.flatMap (probeStatus s) ++ calibrationStatus s ++ testStatus s ++ ringStatus s ++ portStatus s p

/-- A lane's seven counters, in the order of R178. -/
def laneCounters (s : State) (l : Lane) : List Count :=
  [s.rr.committed.get l, s.va.ghosts.get l, s.xf.orphanA.get l, s.xf.orphanB.get l, s.sfe.noise.get l,
   s.sfe.heldEntries.get l, s.cle.counts.get l]

/-- The 28 lane counters (R178). -/
def counterBytes (s : State) : List Byte :=
  (Ix4.all.flatMap (laneCounters s)).flatMap fun c => bytesLE 4 c.toNat

end Sys2Proof.Machine
end

