-- ==== Sys2Proof/Machine/Commands.lean ====
section
/-! DEFINITION. The port commands: their codes, roles and request lengths (R175, 11.1), and the effect and reply of each,
once it has passed the checks of R175. `b` is the command's payload. -/

namespace Sys2Proof.Machine

/-- A command that a code names (11.1). -/
inductive CommandId where
  | status | counters | clearCounters | notices | ackNotices | setNotice | setFilter | setAlerts | fetch | readSeq | seek
  | takeAlert | tableSelect | tableRead | tableWrite | commit | discard | laneMode | laneTest | channelResume | setClock
  | restart
  deriving DecidableEq, Repr

/-- The command that a code names (11.1, R175). -/
def commandOf (code : Byte) : Option CommandId :=
  match code.toNat with
  | 0x01 => some .status
  | 0x02 => some .counters
  | 0x03 => some .clearCounters
  | 0x04 => some .notices
  | 0x05 => some .ackNotices
  | 0x06 => some .setNotice
  | 0x10 => some .setFilter
  | 0x11 => some .setAlerts
  | 0x12 => some .fetch
  | 0x13 => some .readSeq
  | 0x14 => some .seek
  | 0x15 => some .takeAlert
  | 0x20 => some .tableSelect
  | 0x21 => some .tableRead
  | 0x22 => some .tableWrite
  | 0x23 => some .commit
  | 0x24 => some .discard
  | 0x30 => some .laneMode
  | 0x31 => some .laneTest
  | 0x32 => some .channelResume
  | 0x33 => some .setClock
  | 0x34 => some .restart
  | _ => none

/-- The command requires the MAINTENANCE role (R175). -/
def maintenanceOnly : CommandId → Bool
  | .clearCounters | .tableWrite | .commit | .discard | .laneMode | .laneTest | .channelResume | .setClock
  | .restart => true
  | .status | .counters | .notices | .ackNotices | .setNotice | .setFilter | .setAlerts | .fetch | .readSeq | .seek
  | .takeAlert | .tableSelect | .tableRead => false

/-- The request length of a command; none for TABLE_WRITE, which R144 checks itself (11.1, R175). -/
def requestLength : CommandId → Option Nat
  | .status | .counters | .clearCounters | .notices | .fetch | .takeAlert | .tableRead | .commit | .discard
  | .restart => some 0
  | .ackNotices | .setAlerts | .channelResume => some 1
  | .laneMode | .laneTest => some 2
  | .setNotice | .tableSelect => some 3
  | .setClock => some 4
  | .readSeq | .seek => some 5
  | .setFilter => some 6
  | .tableWrite => none

/-- What a command leads to: the state after its effect and its reply. -/
abbrev Answer := State × Reply

/-- A refusal, or an answer of the status alone, that changes no state (00_scope.md 5.5). -/
def refuse (s : State) (x : Status) : Answer := (s, x.alone)

/-- The number in one byte of a request. -/
def byteAt (b : List Byte) (i : Nat) : Nat := (b.getD i 0).toNat

/-- The 32-bit number at a place of a request. -/
def wordAt (b : List Byte) (i : Nat) : BitVec 32 := BitVec.ofNat 32 (numberLE ((b.drop i).take 4))

/-! ### Observation and clock -/

/-- STATUS (R177). -/
def doStatus (p : PortId) (s : State) : Answer := (s, ⟨.ok, statusBytes s p⟩)

/-- COUNTERS (R178). -/
def doCounters (s : State) : Answer := (s, ⟨.ok, counterBytes s⟩)

/-- CLEAR_COUNTERS (R179). -/
def doClearCounters (s : State) : Answer := (s.zeroLaneCounters, Status.ok.alone)

/-- SET_CLOCK: the seconds count replaced, the tick kept; the reply gives the clock as it then stands (R2, R179). -/
def doSetClock (b : List Byte) (s : State) : Answer :=
  let s := { s with clock := { s.clock with seconds := wordAt b 0 } }
  (s, ⟨.ok, stampBytes ⟨s.clock.seconds, s.clock.tick⟩⟩)

/-! ### Notices (R182, R183) -/

/-- The highest pending cause as its byte (R189). -/
def causeByte (f : NoticeSet) : List Byte := optLE 1 (highestCause f)

/-- NOTICES (R182). -/
def doNotices (p : PortId) (s : State) : Answer :=
  let x := s.port p
  (s, ⟨.ok, noticeByte x.flags ++ noticeByte x.mask ++ noticeByte x.unmasked ++ causeByte x.flags⟩)

/-- ACK_NOTICES (R182). -/
def doAckNotices (p : PortId) (b : List Byte) (s : State) : Answer :=
  if 32 ≤ byteAt b 0 then refuse s .range
  else
    let x := replaceFlags s.now ((s.port p).flags &&& ~~~(BitVec.ofNat 5 (byteAt b 0))) (s.port p)
    (s.withPort p x, ⟨.ok, noticeByte x.flags⟩)

/-- The line mode that a code names (R189). -/
def lineModeOf : Nat → Option LineMode
  | 0 => some .levelLow
  | 1 => some .levelHigh
  | 2 => some .pulse
  | _ => none

/-- The three notice settings replaced at once, the line following (R183, R185): in PULSE mode a set that passes from
empty to non-empty starts a pulse, and a set that is not empty sets the reminder expiry; an empty set clears it; away
from PULSE mode a pulse in progress ends. -/
def replaceNotice (now : Time) (mask : NoticeSet) (mode : LineMode) (reminder : Bool) (x : Port) : Port :=
  let y := { x with mask := mask, lineMode := mode, reminder := reminder }
  if mode = .pulse then
    if y.unmasked = 0 then { y with reminderExpiry := none }
    else
      let z := { y with reminderExpiry := if reminder then some (later now 8192) else none }
      if x.unmasked = 0 then startPulse now z else z
  else { y with pulse := none, reminderExpiry := none }

/-- SET_NOTICE (R183). -/
def doSetNotice (p : PortId) (b : List Byte) (s : State) : Answer :=
  match lineModeOf (byteAt b 1) with
  | none => refuse s .range
  | some mode =>
    if 32 ≤ byteAt b 0 ∨ 1 < byteAt b 2 then refuse s .range
    else
      let x := replaceNotice s.now (BitVec.ofNat 5 (byteAt b 0)) mode (decide (byteAt b 2 = 1)) (s.port p)
      (s.withPort p x,
       ⟨.ok, noticeByte x.mask ++ choiceByte (lineModeCode x.lineMode) ++ boolByte x.reminder ++ noticeByte x.flags⟩)

/-! ### The ring (R125 to R132) -/

/-- The format that a code names (R189). -/
def formatOf : Nat → Option Format
  | 0 => some .full
  | 1 => some .summary
  | _ => none

/-- SET_FILTER (R125). -/
def doSetFilter (p : PortId) (b : List Byte) (s : State) : Answer :=
  match formatOf (byteAt b 5) with
  | none => refuse s .range
  | some format =>
    if 16 ≤ byteAt b 0 then refuse s .range
    else
      let q : RingPort :=
        { s.ringPort p with laneMask := BitVec.ofNat 4 (byteAt b 0), classMask := wordAt b 1, format := format }
      (s.withRingPort p q, ⟨.ok, filterBytes q ++ choiceByte (formatCode q.format)⟩)

/-- The subscription that a code names (R189). -/
def subscriptionOf : Nat → Option Subscription
  | 0 => some .off
  | 1 => some .enforceableOnly
  | 2 => some .all
  | _ => none

/-- SET_ALERTS (R131). -/
def doSetAlerts (p : PortId) (b : List Byte) (s : State) : Answer :=
  match subscriptionOf (byteAt b 0) with
  | none => refuse s .range
  | some x => (s.withRingPort p { s.ringPort p with subscription := x }, ⟨.ok, choiceByte (subscriptionCode x)⟩)

/-- FETCH: the walk is one event (R127). -/
def doFetch (p : PortId) (s : State) : Answer :=
  let q := s.ringPort p
  let w := fetchWalk q (s.rr.fromCursor q.cursor) q.cursor
  let s := s.withRingPort p { q with cursor := w.1 }
  let place := bytesLE 4 w.1.toNat ++ bytesLE 2 (s.rr.age w.1)
  match w.2 with
  | none => (s, ⟨.empty, place⟩)
  | some x => (s, ⟨.ok, place ++ recordBytes q.format x 1⟩)

/-- The oldest held and the next sequence number, as GONE, NOT_YET and SEEK carry them (R128, R130). -/
def ringBounds (s : State) : List Byte := bytesLE 4 s.rr.oldest.toNat ++ bytesLE 4 s.rr.next.toNat

/-- READ_SEQ (R128). -/
def doReadSeq (p : PortId) (b : List Byte) (s : State) : Answer :=
  let first := byteAt b 4
  if first < 1 ∨ 16 < first then refuse s .range
  else match s.rr.place (wordAt b 0) with
  | .gone => (s, ⟨.gone, ringBounds s⟩)
  | .notYet => (s, ⟨.notYet, ringBounds s⟩)
  | .held x =>
    if (s.ringPort p).format = .full ∧ x.axleCount < first then refuse s .range
    else (s, ⟨.ok, recordBytes (s.ringPort p).format x first⟩)

/-- SEEK (R130). -/
def doSeek (p : PortId) (b : List Byte) (s : State) : Answer :=
  match s.rr.seekCursor (byteAt b 0) (wordAt b 1) with
  | none => refuse s .range
  | some c => (s.withRingPort p { s.ringPort p with cursor := c }, ⟨.ok, bytesLE 4 c.toNat ++ ringBounds s⟩)

/-- TAKE_ALERT (R132). -/
def doTakeAlert (p : PortId) (s : State) : Answer :=
  match (s.ringPort p).alerts with
  | [] => (s, ⟨.empty, bytesLE 1 0⟩)
  | e :: rest => (s.withRingPort p { s.ringPort p with alerts := rest }, ⟨.ok, alertBytes e ++ bytesLE 1 rest.length⟩)

/-! ### Tables (R142 to R144) -/

/-- The step mode that a code names (R189). -/
def stepOf : Nat → Option StepMode
  | 0 => some .none
  | 1 => some .increment
  | _ => none

/-- TABLE_SELECT (R142). -/
def doTableSelect (p : PortId) (b : List Byte) (s : State) : Answer :=
  match tableOfCode (byteAt b 0), stepOf (byteAt b 2) with
  | some t, some step =>
    if entryCount t ≤ byteAt b 1 then refuse s .range
    else
      let x : Pointer := ⟨t, byteAt b 1, step⟩
      (s.withPort p { s.port p with pointer := x }, ⟨.ok, pointerBytes x⟩)
  | _, _ => refuse s .range

/-- The pointer after a read or write: one entry on with step mode INCREMENT (R143, R144). -/
def Pointer.stepped (x : Pointer) : Pointer :=
  match x.step with
  | .increment => { x with index := x.index + 1 }
  | .none => x

/-- The pointer's index stands at or past the table's entry count (R142). -/
def Pointer.pastEnd (x : Pointer) : Bool := decide (entryCount x.table ≤ x.index)

/-- The port's pointer moves as its step mode gives (R143, R144). -/
def stepPointer (p : PortId) (s : State) : State :=
  s.withPort p { s.port p with pointer := (s.port p).pointer.stepped }

/-- This port holds the edit claim (R146). -/
def holdsClaim (p : PortId) (s : State) : Bool := decide (s.cc.claim = some p)

/-- Another port holds the edit claim (R144, R148, R149). -/
def claimedElsewhere (p : PortId) (s : State) : Bool := s.cc.claim.isSome && !holdsClaim p s

/-- TABLE_READ (R143). -/
def doTableRead (p : PortId) (s : State) : Answer :=
  let x := (s.port p).pointer
  if x.pastEnd then refuse s .range
  else
    let set := if holdsClaim p s then s.cc.edits else s.cc.active
    (stepPointer p s,
     ⟨.ok, choiceByte (tableCode x.table) ++ bytesLE 1 x.index ++ boolByte (holdsClaim p s) ++
       bytesLE 4 s.cc.revision.toNat ++ encodeEntry set x.table x.index⟩)

/-- Ticks of the claim idle time, 120 s (R144, R147). -/
def claimIdleTicks : Nat := 1966080

/-- An accepted TABLE_WRITE: the claim is taken or kept, the clamped entry stored, the idle expiry set and the pointer
stepped (R144). -/
def acceptWrite (p : PortId) (b : List Byte) (s : State) : State :=
  let x := (s.port p).pointer
  let s := { s with cc := { s.cc with
    claim := some p, edits := (storeEntry s.cc.edits x.table x.index b).1,
    claimExpiry := some (later s.now claimIdleTicks) } }
  stepPointer p s

/-- TABLE_WRITE (R144, R190). -/
def doTableWrite (p : PortId) (b : List Byte) (s : State) : Answer :=
  let x := (s.port p).pointer
  if x.pastEnd then refuse s .range
  else if b.length ≠ entryLength x.table x.index then refuse s .badLength
  else if s.cc.waiting then refuse s .busy
  else if claimedElsewhere p s then refuse s .claimed
  else
    let clamped := (storeEntry s.cc.edits x.table x.index b).2
    let after := acceptWrite p b s
    (after,
     ⟨if clamped = [] then .ok else .clamped,
      choiceByte (tableCode x.table) ++ bytesLE 1 x.index ++ bytesLE 1 clamped.length ++
        clamped.flatMap (bytesLE 1) ++ encodeEntry after.cc.edits x.table x.index⟩)

/-! ### Commit and discard (R148, R149) -/

/-- An INVALID answer to COMMIT: the failing table and index, each FFh when absent (R149, R190). -/
def invalidCommit (s : State) : Option (TableId × Nat) → Answer
  | some (t, i) => (s, ⟨.invalid, choiceByte (tableCode t) ++ bytesLE 1 i⟩)
  | none => (s, ⟨.invalid, [0xFF, 0xFF]⟩)

/-- An accepted COMMIT (R149); with every context EMPTY its activation takes place at this tick (R151). -/
def acceptCommit (s : State) : State :=
  { s with cc := { s.cc with
    waiting := true, claimExpiry := none,
    commitExpiry := some (later s.now (secondTicks s.set.site.commitTimeout))
    activationNear := allEmpty s } }

/-- COMMIT (R149). -/
def doCommit (p : PortId) (s : State) : Answer :=
  if claimedElsewhere p s then refuse s .claimed
  else if s.cc.claim = none then invalidCommit s none
  else if s.cc.waiting then refuse s .busy
  else match validationFailure s.cc.edits with
  | some failure => invalidCommit s (some failure)
  | none =>
    if s.cc.persist.isSome then refuse s .busy
    else if s.cc.revision = 0xFFFFFFFF#32 then refuse s .range
    else (acceptCommit s, Status.accepted.alone)

/-- The holder's DISCARD: a waiting commit is cancelled, the claim released and the pending set reverted (R148). -/
def discardEdits (s : State) : State :=
  revertEdits { s with cc := { s.cc with
    waiting := false, commitExpiry := none, activationDue := false, activationNear := false } }

/-- DISCARD (R148). -/
def doDiscard (p : PortId) (s : State) : Answer :=
  if claimedElsewhere p s then refuse s .claimed
  else
    ((if holdsClaim p s then discardEdits s else s),
     ⟨.ok, boolByte (holdsClaim p s) ++ bytesLE 4 s.cc.revision.toNat⟩)

/-! ### Lanes, tests, channels and restart -/

/-- An accepted LANE_MODE on a lane (R157): a test on it is aborted first; a context left EMPTY may bring on an
activation (R151). -/
def changeLane (l : Lane) (close : Bool) (s : State) : State :=
  match s.mode l, close with
  | .opened, false => s
  | .opened, true => noteEmptied (closeLane l s)
  | .closed, false => openLane l s
  | .closed, true => s
  | .test, false => noteEmptied (abortTestOn l s)
  | .test, true => noteEmptied (closeLane l (abortTestOn l s))

/-- LANE_MODE (R157). -/
def doLaneMode (b : List Byte) (s : State) : Answer :=
  match laneOfNumber (byteAt b 0) with
  | none => refuse s .range
  | some l =>
    if 1 < byteAt b 1 then refuse s .range
    else
      let s := changeLane l (decide (byteAt b 1 = 1)) s
      (s, ⟨.ok, choiceByte (modeCode (s.mode l))⟩)

/-- The condition of a lane for a test (R160 check 5). -/
def laneReady (s : State) (l : Lane) : Bool :=
  decide (s.mode l = .opened) && decide ((s.context l).state = .empty) && !s.isOccupied l && !s.laneHeld l

/-- A test accepted on a lane (R160, R161). -/
def startTest (l : Lane) (i : Ix4) (s : State) : State :=
  let t := newTest s.set (s.xf.windows.get l) s.now l (laneNumber i - 1) (s.set.patterns.get i)
  ({ s with ltg := { s.ltg with test := some t } }).withMode l .test

/-- The reply of an accepted LANE_TEST: t0, v_t and the expiry (R160). -/
def testReply (s : State) : Reply :=
  match s.ltg.test with
  | some t => ⟨.ok, bytesLE 4 t.startTime.toNat ++ bytesLE 2 t.speed ++ bytesLE 4 t.expiry.toNat⟩
  | none => Status.ok.alone

/-- LANE_TEST (R160). -/
def doLaneTest (b : List Byte) (s : State) : Answer :=
  match laneOfNumber (byteAt b 0), ix4OfIndex (byteAt b 1) with
  | some l, some i =>
    if (s.set.patterns.get i).enabled = false then refuse s .invalid
    else if s.ltg.test.isSome then refuse s .busy
    else if laneReady s l = false then refuse s .busy
    else (startTest l i s, testReply (startTest l i s))
  | _, _ => refuse s .range

/-- CHANNEL_RESUME (R13). -/
def doChannelResume (b : List Byte) (s : State) : Answer :=
  match channelOfIndex (byteAt b 0) with
  | none => refuse s .range
  | some c =>
    let s := if (s.channel c).state = .held then holdEnds c s else s
    (s, ⟨.ok, choiceByte (channelCode (s.channel c).state)⟩)

/-- RESTART: TAKEN, or PENDING behind a persist (R186). -/
def doRestart (s : State) : Answer := (requestRestart s, ⟨.ok, choiceByte (if s.cc.persist.isSome then 1 else 0)⟩)

/-- The command that a code names acts and answers (R175 step 4). -/
def runCommand (p : PortId) (b : List Byte) (s : State) : CommandId → Answer
  | .status => doStatus p s
  | .counters => doCounters s
  | .clearCounters => doClearCounters s
  | .notices => doNotices p s
  | .ackNotices => doAckNotices p b s
  | .setNotice => doSetNotice p b s
  | .setFilter => doSetFilter p b s
  | .setAlerts => doSetAlerts p b s
  | .fetch => doFetch p s
  | .readSeq => doReadSeq p b s
  | .seek => doSeek p b s
  | .takeAlert => doTakeAlert p s
  | .tableSelect => doTableSelect p b s
  | .tableRead => doTableRead p s
  | .tableWrite => doTableWrite p b s
  | .commit => doCommit p s
  | .discard => doDiscard p s
  | .laneMode => doLaneMode b s
  | .laneTest => doLaneTest b s
  | .channelResume => doChannelResume b s
  | .setClock => doSetClock b s
  | .restart => doRestart s

end Sys2Proof.Machine
end

