-- ==== Sys2Proof/Machine/Ports.lean ====
section
/-! DEFINITION. The port logic (Chapter 10): dispatch and response, service of checked frames, the receiver, and the notice
line's timers. -/

namespace Sys2Proof.Machine

/-! ### Taking a command (R174, R175, R176) -/

/-- The port's role admits the command (R175 step 2). -/
def roleAdmits (role : Role) (c : CommandId) : Bool :=
  match role with
  | .enforcement | .statistics => !maintenanceOnly c
  | .maintenance => true
  | .disabled => false

/-- The payload length fits the command (R175 step 3). -/
def lengthFits (c : CommandId) (payload : List Byte) : Bool :=
  match requestLength c with
  | some n => decide (payload.length = n)
  | none => true

/-- The checks and the effect of a command that is taken, with its reply (R175). -/
def dispatch (p : PortId) (f : Frame) (s : State) : Answer :=
  match commandOf f.code with
  | none => refuse s .unknown
  | some c =>
    if roleAdmits (s.port p).role c = false then refuse s .denied
    else if lengthFits c f.payload = false then refuse s .badLength
    else runCommand p f.payload s c

/-- A response's transmission begins at this tick and ends when its last character has been sent (R174, R171). -/
def transmit (p : PortId) (frame : List Byte) (s : State) : State :=
  s.withPort p { s.port p with
    tx := .sending frame (later s.now (characterTicks (s.port p).rate frame.length)) }

/-- A frame is taken: its command acts, and its one response goes out (R174, R176). -/
def takeFrame (p : PortId) (f : Frame) (s : State) : State :=
  transmit p (responseFrame f.code f.tag (dispatch p f s).2) (dispatch p f s).1

/-- A checked frame is served: taken at once, held in the receive buffer, or dropped as an overrun (R174). A DISABLED port
forms no frame (R170); before the first sample tick a frame waits for it (R188). -/
def serve (p : PortId) (f : Frame) (s : State) : State :=
  let x := s.port p
  if s.disabled p then s
  else if s.clock.started = false then { s with early := s.early ++ [(p, f)] }
  else match x.tx, x.buffer with
  | .idle, _ => takeFrame p f s
  | .sending _ _, none => s.withPort p { x with buffer := some f }
  | .sending _ _, some _ => s.withPort p { x with overruns := x.overruns + 1 }

/-- The response in transmission has been sent at this tick (R174). -/
def responseDue (s : State) (p : PortId) : Bool :=
  match (s.port p).tx with
  | .idle => false
  | .sending _ finish => reached s.now finish

/-- The transmitter becomes idle, and a frame in the receive buffer is taken (R174). -/
def responseEnds (p : PortId) (s : State) : State :=
  let x := s.port p
  let s := s.withPort p { x with tx := .idle, buffer := none }
  match x.buffer with
  | some f => takeFrame p f s
  | none => s

/-! ### The receiver (R171, R172, R173) -/

/-- A partial frame is dropped with a count where it was being assembled, without while its second sync byte is awaited;
the receiver hunts (R171, R172). -/
def dropPartial (x : Port) : Port :=
  match x.rx with
  | .assembling _ => { x with rx := .hunting, frameErrors := x.frameErrors + 1 }
  | .awaitingSync => { x with rx := .hunting }
  | .hunting | .complete _ => x

/-- The length byte of a partial frame, held from the command code on. -/
def lengthByte (bytes : List Byte) : Nat := (bytes.getD 2 0).toNat

/-- A byte joins the frame being assembled: a length byte above 240 discards it, the second check byte completes it
(R172). -/
def assemble (bytes : List Byte) (b : Byte) (x : Port) : Port :=
  let bytes := bytes ++ [b]
  if bytes.length = 3 ∧ 240 < b.toNat then { x with rx := .hunting, frameErrors := x.frameErrors + 1 }
  else if 3 < bytes.length ∧ bytes.length = lengthByte bytes + 5 then { x with rx := .complete bytes }
  else { x with rx := .assembling bytes }

/-- A good character's byte (R172). -/
def receiveByte (b : Byte) (x : Port) : Port :=
  match x.rx with
  | .hunting => if b = 0xC3#8 then { x with rx := .awaitingSync } else x
  | .awaitingSync =>
    if b = 0x3C#8 then { x with rx := .assembling [] }
    else if b = 0xC3#8 then x
    else { x with rx := .hunting }
  | .assembling bytes => assemble bytes b x
  | .complete _ => x

/-- The inter-byte gap has run past 82 ticks (R172). -/
def gapDue (s : State) (p : PortId) : Bool :=
  match (s.port p).rx with
  | .awaitingSync | .assembling _ => decide (82 < elapsed s.now (s.port p).rxLast)
  | .hunting | .complete _ => false

/-- The ticks from a start bit to the moment at which a break or a framing error is known at the latest: the low that makes
either may begin only with the character's stop bit, and a break is told from a framing error when the line has been low for
16 ticks (R171, notes/assumptions/12.md). -/
def breakTicks (rate : Rate) : Nat := 16 + characterTicks rate 1

/-- The gap has run past 82 ticks whatever has just become known on the line whose start bit came at most so many ticks ago
(R171, R172, notes/assumptions/12.md). -/
def gapOverdue (s : State) (p : PortId) (since : Nat) : Bool :=
  gapDue s p && decide (82 + since < elapsed s.now (s.port p).rxLast)

/-- The gap discards the partial frame (R172). -/
def gapExpires (p : PortId) (s : State) : State := s.withPort p (dropPartial (s.port p))

/-- The check value of a complete frame, held from the command code on, is the one formed over it (R173). -/
def frameChecks (bytes : List Byte) : Bool := decide (bytes.drop (bytes.length - 2) = crcBytes (bytes.take (bytes.length - 2)))

/-- The code, tag and payload of a complete frame (11.1). -/
def frameOf (bytes : List Byte) : Frame :=
  ⟨bytes.getD 0 0, bytes.getD 1 0, (bytes.drop 3).take (lengthByte bytes)⟩

/-- A frame is complete at this port and has not yet been checked. -/
def frameDue (s : State) (p : PortId) : Bool :=
  match (s.port p).rx with
  | .complete _ => true
  | .hunting | .awaitingSync | .assembling _ => false

/-- A complete frame is checked: dropped silently with a count, or served (R173, R174). -/
def frameCompletes (p : PortId) (s : State) : State :=
  let x := s.port p
  match x.rx with
  | .complete bytes =>
    if frameChecks bytes then serve p (frameOf bytes) (s.withPort p { x with rx := .hunting })
    else s.withPort p { x with rx := .hunting, frameErrors := x.frameErrors + 1 }
  | .hunting | .awaitingSync | .assembling _ => s

/-- Before the first sample tick a frame that is complete at any port is checked before anything more arrives, so that
frames keep the order in which they completed (R188). -/
def completeEarlier (s : State) : State :=
  if s.clock.started then s else PortId.all.foldl (fun s p => frameCompletes p s) s

/-- A command's whole frame completes at a port at this tick, checked (R173, R174, notes/assumptions/24.md). -/
def frameArrives (p : PortId) (f : Frame) (s : State) : State :=
  if s.disabled p then s else serve p f (completeEarlier s)

/-- What comes before a character that began so many ticks ago: the check of a frame that is complete, or the discard of a
partial frame whose gap has run out. -/
def settleReceiver (p : PortId) (since : Nat) (s : State) : State :=
  let s := completeEarlier s
  if frameDue s p then frameCompletes p s else if gapOverdue s p since then gapExpires p s else s

/-- A character ends at this tick: a good one goes to frame assembly, one with a framing error drops what was being
assembled (R171). -/
def characterEnds (p : PortId) (b : Byte) (good : Bool) (s : State) : State :=
  if s.disabled p then s
  else
    if good then
      let s := settleReceiver p (characterTicks (s.port p).rate 1) s
      s.withPort p { receiveByte b (s.port p) with rxLast := s.now }
    else
      let s := settleReceiver p (breakTicks (s.port p).rate) s
      s.withPort p (dropPartial (s.port p))

/-- A break, known once the line has been low for 16 ticks, discards a partial frame without count (R171), unless the gap
before it had run out (R172). A frame that is complete is no partial frame. -/
def breakReceived (p : PortId) (s : State) : State :=
  if s.disabled p then s
  else if gapOverdue s p (breakTicks (s.port p).rate) then gapExpires p s
  else match (s.port p).rx with
  | .hunting | .complete _ => s
  | .awaitingSync | .assembling _ => s.withPort p { s.port p with rx := .hunting }

/-! ### The notice line's timers (R185) -/

/-- The pulse end time is reached. -/
def pulseDue (s : State) (p : PortId) : Bool :=
  match (s.port p).pulse with
  | some t => reached s.now t
  | none => false

/-- The line returns high and the pulse state becomes IDLE. -/
def pulseEnds (p : PortId) (s : State) : State := s.withPort p { s.port p with pulse := none }

/-- The reminder expiry is reached while the set is not empty. -/
def reminderDue (s : State) (p : PortId) : Bool :=
  match (s.port p).reminderExpiry with
  | some t => reached s.now t && decide ((s.port p).unmasked ≠ 0)
  | none => false

/-- A further pulse starts. -/
def reminderExpires (p : PortId) (s : State) : State := s.withPort p (startPulse s.now (s.port p))

end Sys2Proof.Machine
end

