-- ==== Sys2Proof/Machine/Events.lean ====
section
/-! DEFINITION. The events of the device that no port commands: each takes effect where its condition holds and leaves the
state as it is where it does not (notes/assumptions/4.md). An event that can leave a context EMPTY is followed by the
test of R151. -/

namespace Sys2Proof.Machine

/-- An effect where its condition holds. -/
def whenever (due : Bool) (effect : State → State) (s : State) : State := if due then effect s else s

/-! ### Strip channels -/

/-- SETTLING_COMPLETE (R4). -/
def eventSettling (c : ChannelId) (s : State) : State := whenever (settlingDone (s.channel c)) (settlingCompletes c) s

/-- HIT_END (R9). -/
def eventHitEnd (c : ChannelId) (s : State) : State :=
  whenever (hitDone (s.channel c)) (fun s => noteEmptied (hitEnds c s)) s

/-- MAX_HIT_DURATION_EXCEEDED (R8, R11). -/
def eventOverrun (c : ChannelId) (s : State) : State := whenever (hitTooLong (s.channel c)) (hitOverruns c) s

/-- HOLD_COUNT_REACHED (R12). -/
def eventHoldEnd (c : ChannelId) (s : State) : State := whenever (holdDone (s.channel c)) (holdEnds c) s

/-- SITE_SECOND (R2). -/
def eventSecond (s : State) : State := whenever s.clock.secondDue secondPasses s

/-! ### Crossings -/

/-- PAIRING_DEADLINE of the hit at a place of a pool (R21). -/
def eventPairing (l : Lane) (r : Row) (index : Nat) (s : State) : State :=
  match pairingDue s l r index with
  | some h => noteEmptied (decideHit h s)
  | none => s

/-- A crossing of the lane's queue is older than Δt_max (R30). -/
def rowADue (s : State) (l : Lane) : Bool := (s.queue l).any (entryExpired s l)

/-- ROW_A_EXPIRY (R30). -/
def eventRowA (l : Lane) (s : State) : State := whenever (rowADue s l) (expireQueue l) s

/-! ### Presence, vehicles and triggers -/

/-- The lane takes presence events: the device samples its inputs and the lane is not CLOSED (R1, R73, R158). -/
def takesPresence (s : State) (l : Lane) : Bool := s.clock.started && decide (s.mode l ≠ .closed)

/-- OCCUPIED is due: the input reads occupied and the lane is not (R73). -/
def occupiedDue (s : State) (l : Lane) : Bool := takesPresence s l && s.readsOccupied l && !s.isOccupied l

/-- RELEASED is due (R73). -/
def releasedDue (s : State) (l : Lane) : Bool := takesPresence s l && !s.readsOccupied l && s.isOccupied l

/-- The lane's presence input read as occupied or as not, as its polarity gives (R73). -/
def presenceTo (l : Lane) (occupied : Bool) (s : State) : State :=
  s.withPresence l (match (s.set.lanes.get l).presencePolarity with | .activeHigh => occupied | .activeLow => !occupied)

/-- OCCUPIED on a lane whose input reads so (R83). -/
def eventOccupied (l : Lane) (s : State) : State :=
  whenever (occupiedDue s l) (fun s => noteEmptied (takeOccupied l s)) s

/-- RELEASED on a lane whose input reads so (R83). -/
def eventReleased (l : Lane) (s : State) : State := whenever (releasedDue s l) (takeReleased l) s

/-- CLOSE_DELAY_EXPIRY (R84). -/
def eventCloseDelay (l : Lane) (s : State) : State :=
  whenever (closeDelayDue s l) (fun s => noteEmptied (closeDelayExpires l s)) s

/-- DURATION_EXPIRY (R85). -/
def eventDuration (l : Lane) (s : State) : State :=
  whenever (durationDue s l) (fun s => noteEmptied (durationExpires l s)) s

/-- The trigger's pulse end time is reached (R112). -/
def triggerDue (s : State) (l : Lane) : Bool :=
  match s.cle.triggers.get l with
  | some t => reached s.now t
  | none => false

/-- TRIGGER_PULSE_END (R112). -/
def eventTrigger (l : Lane) (s : State) : State := whenever (triggerDue s l) (fun s => s.withTrigger l none) s

/-! ### Injection test -/

/-- INJECTION_PULSE: the test's phase and the excess it supplies follow its schedule (R162). -/
def eventInjection (s : State) : State :=
  match s.ltg.test with
  | some t => { s with ltg := { s.ltg with test := some (t.pulseAt s.now) } }
  | none => s

/-- A pulse of the test starts or stops, or its phase passes, at this tick (R162). -/
def injectionDue (s : State) : Bool :=
  match s.ltg.test with
  | some t => decide (t.pulseAt s.now ≠ t)
  | none => false

/-- The test expiry is reached and no vehicle has opened (R166). -/
def testDue (s : State) : Option TestContext :=
  match s.ltg.test with
  | some t => if reached s.now t.expiry = true ∧ t.vehicleOpened = false then some t else none
  | none => none

/-- TEST_EXPIRY: the test completes without a vehicle, every ratio 0 (R166). -/
def eventTestExpiry (s : State) : State :=
  match testDue s with
  | some t => noteEmptied (completeTest t (fun _ => 0) none s)
  | none => s

/-! ### Calibration and restart -/

/-- CLAIM_IDLE_EXPIRY (R147). -/
def eventClaimIdle (s : State) : State := whenever (claimIdleDue s) claimExpires s

/-- ACTIVATION of a commit that was accepted at this tick with every context EMPTY (R151); one whose moment came with a
closing or the timeout comes before any event. -/
def eventActivation (s : State) : State := whenever s.cc.activationNear activate s

/-- COMMIT_TIMEOUT_EXPIRY (R151). -/
def eventCommitTimeout (s : State) : State := whenever (commitTimeoutDue s) commitTimesOut s

/-- PERSIST_COMPLETE with an outcome, from 200 ms after the persist's start (R154). -/
def eventPersist (equal : Bool) (s : State) : State :=
  whenever (persistRan s persistEarliest) (persistCompletes equal) s

/-- A persist that has run its longest completes, its read-back a free value (R154, notes/assumptions/10.md). -/
def eventPersistOverdue (s : State) : State :=
  whenever (persistRan s persistLatest)
    (fun s => persistCompletes (Config.freeReadBack s.freeIndex) { s with freeIndex := s.freeIndex + 1 }) s

/-- RESTART_INPUT on an input that has read low after high (R186). -/
def eventRestartInput (s : State) : State :=
  whenever s.pins.restartEdge
    (fun s => requestRestart { s with pins := { s.pins with restartEdge := false } }) s

/-! ### Serial links and notice lines -/

/-- FRAME_RECEIVED (R173). -/
def eventFrame (p : PortId) (s : State) : State := whenever (frameDue s p) (frameCompletes p) s

/-- INTER_BYTE_GAP_TIMEOUT (R172). -/
def eventGap (p : PortId) (s : State) : State := whenever (gapDue s p) (gapExpires p) s

/-- RESPONSE_SENT (R174). -/
def eventResponse (p : PortId) (s : State) : State := whenever (responseDue s p) (responseEnds p) s

/-- NOTICE_PULSE_END (R185). -/
def eventPulseEnd (p : PortId) (s : State) : State := whenever (pulseDue s p) (pulseEnds p) s

/-- REMINDER_EXPIRY (R185). -/
def eventReminder (p : PortId) (s : State) : State := whenever (reminderDue s p) (reminderExpires p) s

end Sys2Proof.Machine
end

