-- ==== Sys2Proof/Machine/CalibrationFamily.lean ====
section
/-! DEFINITION. The events of the Calibration Controller (R147, R151, R152, R154). -/

namespace Sys2Proof.Machine

/-- CLAIM_IDLE_EXPIRY: a claim that has been idle for 120 s is released (R147). -/
def execClaimIdleExpiry (s : State) : Result := onLive eventClaimIdle s

/-- COMMIT_TIMEOUT_EXPIRY: the timeout of a waiting commit brings on its activation (R151). -/
def execCommitTimeoutExpiry (s : State) : Result := onLive eventCommitTimeout s

/-- ACTIVATION: the pending set becomes active, where R151's moment has come (R152). -/
def execActivation (s : State) : Result := onLive eventActivation s

/-- PERSIST_COMPLETE with its read-back equal or not (R154). -/
def execPersistComplete (equal : Bool) (s : State) : Result := onLive (eventPersist equal) s

end Sys2Proof.Machine
end

