-- ==== Sys2Proof/Machine/CommandFamily.lean ====
section
/-! DEFINITION. The port commands. Each is a checked frame of that command completing at its port at this tick (R174): it is
taken at once, waits in the receive buffer, or is dropped as an overrun (notes/assumptions/24.md). What the command does
when it is taken stands in Commands.lean. -/

namespace Sys2Proof.Machine

/-- A frame whose code names no command (R175, R176). -/
def execUnknownCommand (p : PortId) (code tag : Byte) (s : State) : Result :=
  onLive (frameArrives p ⟨code, tag, []⟩) s

/-- STATUS (R177). -/
def execStatus (p : PortId) (tag : Byte) (s : State) : Result :=
  onLive (frameArrives p ⟨0x01, tag, []⟩) s

/-- COUNTERS (R178). -/
def execCounters (p : PortId) (tag : Byte) (s : State) : Result :=
  onLive (frameArrives p ⟨0x02, tag, []⟩) s

/-- CLEAR_COUNTERS (R179). -/
def execClearCounters (p : PortId) (tag : Byte) (s : State) : Result :=
  onLive (frameArrives p ⟨0x03, tag, []⟩) s

/-- NOTICES (R182). -/
def execNotices (p : PortId) (tag : Byte) (s : State) : Result :=
  onLive (frameArrives p ⟨0x04, tag, []⟩) s

/-- ACK_NOTICES (R182). -/
def execAckNotices (p : PortId) (tag flags : Byte) (s : State) : Result :=
  onLive (frameArrives p ⟨0x05, tag, [flags]⟩) s

/-- SET_NOTICE (R183). -/
def execSetNotice (p : PortId) (tag mask lineMode reminder : Byte) (s : State) : Result :=
  onLive (frameArrives p ⟨0x06, tag, [mask, lineMode, reminder]⟩) s

/-- SET_FILTER (R125). -/
def execSetFilter (p : PortId) (tag laneMask : Byte) (classMask : BitVec 32) (format : Byte) (s : State) : Result :=
  onLive (frameArrives p ⟨0x10, tag, [laneMask] ++ bytesLE 4 classMask.toNat ++ [format]⟩) s

/-- SET_ALERTS (R131). -/
def execSetAlerts (p : PortId) (tag subscription : Byte) (s : State) : Result :=
  onLive (frameArrives p ⟨0x11, tag, [subscription]⟩) s

/-- FETCH (R127). -/
def execFetch (p : PortId) (tag : Byte) (s : State) : Result :=
  onLive (frameArrives p ⟨0x12, tag, []⟩) s

/-- READ_SEQ (R128). -/
def execReadSeq (p : PortId) (tag : Byte) (seq : Seq) (firstAxle : Byte) (s : State) : Result :=
  onLive (frameArrives p ⟨0x13, tag, bytesLE 4 seq.toNat ++ [firstAxle]⟩) s

/-- SEEK (R130). -/
def execSeek (p : PortId) (tag target : Byte) (seq : Seq) (s : State) : Result :=
  onLive (frameArrives p ⟨0x14, tag, [target] ++ bytesLE 4 seq.toNat⟩) s

/-- TAKE_ALERT (R132). -/
def execTakeAlert (p : PortId) (tag : Byte) (s : State) : Result :=
  onLive (frameArrives p ⟨0x15, tag, []⟩) s

/-- TABLE_SELECT (R142). -/
def execTableSelect (p : PortId) (tag table index stepMode : Byte) (s : State) : Result :=
  onLive (frameArrives p ⟨0x20, tag, [table, index, stepMode]⟩) s

/-- TABLE_READ (R143). -/
def execTableRead (p : PortId) (tag : Byte) (s : State) : Result :=
  onLive (frameArrives p ⟨0x21, tag, []⟩) s

/-- TABLE_WRITE (R144, R190). A payload longer than 240 bytes is in no frame (11.1). -/
def execTableWrite (p : PortId) (tag : Byte) (entry : List Byte) (s : State) : Result :=
  onLive (frameArrives p ⟨0x22, tag, entry⟩) s

/-- COMMIT (R149). -/
def execCommit (p : PortId) (tag : Byte) (s : State) : Result :=
  onLive (frameArrives p ⟨0x23, tag, []⟩) s

/-- DISCARD (R148). -/
def execDiscard (p : PortId) (tag : Byte) (s : State) : Result :=
  onLive (frameArrives p ⟨0x24, tag, []⟩) s

/-- LANE_MODE (R157). -/
def execLaneMode (p : PortId) (tag lane mode : Byte) (s : State) : Result :=
  onLive (frameArrives p ⟨0x30, tag, [lane, mode]⟩) s

/-- LANE_TEST (R160). -/
def execLaneTest (p : PortId) (tag lane pattern : Byte) (s : State) : Result :=
  onLive (frameArrives p ⟨0x31, tag, [lane, pattern]⟩) s

/-- CHANNEL_RESUME (R13). -/
def execChannelResume (p : PortId) (tag channel : Byte) (s : State) : Result :=
  onLive (frameArrives p ⟨0x32, tag, [channel]⟩) s

/-- SET_CLOCK (R2, R179). -/
def execSetClock (p : PortId) (tag : Byte) (seconds : BitVec 32) (s : State) : Result :=
  onLive (frameArrives p ⟨0x33, tag, bytesLE 4 seconds.toNat⟩) s

/-- RESTART (R186). -/
def execRestart (p : PortId) (tag : Byte) (s : State) : Result :=
  onLive (frameArrives p ⟨0x34, tag, []⟩) s

end Sys2Proof.Machine
end

