-- ==== Sys2Proof/Machine/CrossingFamily.lean ====
section
/-! DEFINITION. The events of the Crossing Former (R21, R30). -/

namespace Sys2Proof.Machine

/-- PAIRING_DEADLINE: a pooled hit whose deadline is reached decides (R21 to R25). -/
def execPairingDeadline (l : Lane) (r : Row) (index : Nat) (s : State) : Result := onLive (eventPairing l r index) s

/-- ROW_A_EXPIRY: queue entries older than Δt_max are dropped as row-A orphans (R30). -/
def execRowAExpiry (l : Lane) (s : State) : Result := onLive (eventRowA l) s

end Sys2Proof.Machine
end

