-- ==== Sys2Proof/Machine/LinkFamily.lean ====
section
/-! DEFINITION. The events of the serial links (R171 to R174). -/

namespace Sys2Proof.Machine

/-- CHARACTER_RECEIVED: a character ends, its stop bit good or not (R171, R172). -/
def execCharacterReceived (p : PortId) (byte : Byte) (good : Bool) (s : State) : Result :=
  onLive (characterEnds p byte good) s

/-- LINE_BREAK (R171). -/
def execLineBreak (p : PortId) (s : State) : Result := onLive (breakReceived p) s

/-- INTER_BYTE_GAP_TIMEOUT (R172). -/
def execInterByteGapTimeout (p : PortId) (s : State) : Result := onLive (eventGap p) s

/-- FRAME_RECEIVED: a complete frame is checked and served (R173, R174). -/
def execFrameReceived (p : PortId) (s : State) : Result := onLive (eventFrame p) s

/-- RESPONSE_SENT: the transmitter becomes idle and a buffered frame is taken (R174). -/
def execResponseSent (p : PortId) (s : State) : Result := onLive (eventResponse p) s

end Sys2Proof.Machine
end

