-- ==== Sys2Proof/Machine/NoticeFamily.lean ====
section
/-! DEFINITION. The events of the notice lines (R185). -/

namespace Sys2Proof.Machine

/-- NOTICE_PULSE_END (R185). -/
def execNoticePulseEnd (p : PortId) (s : State) : Result := onLive (eventPulseEnd p) s

/-- REMINDER_EXPIRY (R185). -/
def execReminderExpiry (p : PortId) (s : State) : Result := onLive (eventReminder p) s

end Sys2Proof.Machine
end

