-- ==== Sys2Proof/Machine/Settle.lean ====
section
/-! DEFINITION. The sample tick (R1): what is still due at a tick is taken before time moves on, in one fixed order
(DESIGN CHOICE, notes/assumptions/5.md); then the clocks advance, the inputs are read and the channels sampled. -/

namespace Sys2Proof.Machine

/-! ### What is still due -/

def channelDue (s : State) (c : ChannelId) : Bool :=
  settlingDone (s.channel c) || hitDone (s.channel c) || hitTooLong (s.channel c) || holdDone (s.channel c)

def poolDue (s : State) (l : Lane) : Bool :=
  Row.all.any fun r => (s.pool l r).any fun h => reached s.now h.deadline

def laneDue (s : State) (l : Lane) : Bool :=
  poolDue s l || rowADue s l || occupiedDue s l || releasedDue s l || closeDelayDue s l || durationDue s l ||
    triggerDue s l

def portDue (s : State) (p : PortId) : Bool :=
  frameDue s p || gapOverdue s p (breakTicks (s.port p).rate) || responseDue s p || pulseDue s p || reminderDue s p

def deviceDue (s : State) : Bool :=
  s.cc.activationDue || s.cc.activationNear || s.cc.restartDue || s.clock.secondDue || injectionDue s || (testDue s).isSome ||
    claimIdleDue s || commitTimeoutDue s || persistRan s persistLatest || s.pins.restartEdge

/-- Some event is due at the present tick. -/
def dueNow (s : State) : Bool :=
  deviceDue s || ChannelId.all.any (channelDue s) || Ix4.all.any (laneDue s) || PortId.all.any (portDue s)

/-! ### Taking it -/

/-- Up to `n` hits of a pool whose deadline is reached decide, the oldest first. -/
def decideDue (l : Lane) (r : Row) : Nat → State → State
  | 0, s => s
  | n + 1, s =>
    match (s.pool l r).findIdx? (fun h => reached s.now h.deadline) with
    | some i => decideDue l r n (settleUrgent (eventPairing l r i s))
    | none => s

/-- The gap that neither a character nor a break can have ended in time (R171, R172). -/
def eventGapOverdue (p : PortId) (s : State) : State :=
  whenever (gapOverdue s p (breakTicks (s.port p).rate)) (gapExpires p) s

/-- A channel's events. -/
def channelEvents (c : ChannelId) : List (State → State) :=
  [eventSettling c, eventHitEnd c, eventOverrun c, eventHoldEnd c]

/-- A lane's events. -/
def laneEvents (l : Lane) : List (State → State) :=
  [decideDue l .a 9, decideDue l .b 9, eventRowA l, eventOccupied l, eventReleased l, eventCloseDelay l, eventDuration l,
   eventTrigger l]

/-- The device's own events. -/
def deviceEvents : List (State → State) :=
  [eventInjection, eventTestExpiry, eventClaimIdle, eventCommitTimeout, eventPersistOverdue, eventRestartInput]

/-- A port's events. -/
def portEvents (p : PortId) : List (State → State) :=
  [eventFrame p, eventGapOverdue p, eventResponse p, eventPulseEnd p, eventReminder p]

/-- Every event, in the order in which a sample tick takes what is due. -/
def allEvents : List (State → State) :=
  ChannelId.all.flatMap channelEvents ++ [eventSecond] ++ Ix4.all.flatMap laneEvents ++ deviceEvents ++
    PortId.all.flatMap portEvents

/-- Each event once, each followed by what comes at once. -/
def settlePass (s : State) : State := allEvents.foldl (fun s event => settleUrgent (event s)) (settleUrgent s)

/-- Everything still due at the present tick is taken; a second pass takes what the first brought on, and the activation of
a commit of this tick comes last (R151, R156). -/
def settleDue (s : State) : State := if dueNow s then eventActivation (settlePass (settlePass s)) else s

/-! ### The tick -/

/-- The clocks advance, but for the first tick after power-on (R1, R2). -/
def Clock.advance (c : Clock) : Clock :=
  if c.started = false then { c with started := true }
  else if c.tick < 16383 then { c with now := c.now + 1, tick := c.tick + 1 }
  else { c with now := c.now + 1, tick := 0, secondDue := true }

/-- The inputs are read; the restart input's edge from high to low is held for RESTART_INPUT (R73, R186). -/
def readPins (inputs : Inputs) (x : Pins) : Pins :=
  ⟨inputs.presence, inputs.probes, inputs.restartHigh, x.restartEdge || (x.restartHigh && !inputs.restartHigh)⟩

/-- Every channel handles its sample, with the injected excess of a test (R1, R16). -/
def sampleAll (samples : PerChannel (BitVec 12)) (s : State) : State :=
  let sampled (c : ChannelId) : Channel :=
    sampleChannel (s.set.channels.chan c) s.set.site.maxHit s.now (samples.chan c).toNat (injectedExcess s s.now c)
      (s.channel c)
  { s with sfe := { s.sfe with channels := Quad.ofChan sampled } }

/-- The frames that were complete before the first sample tick are served at it, in the order they completed (R188). DESIGN
CHOICE (notes/assumptions/31.md): they come before any other event of that tick. -/
def serveEarly (s : State) : State :=
  s.early.foldl (fun s f => settleUrgent (serve f.1 f.2 s)) { s with early := [] }

/-- One sample tick: the clocks, the inputs and the sixteen samples. -/
def takeTick (inputs : Inputs) (s : State) : State :=
  sampleAll inputs.samples { s with clock := s.clock.advance, pins := readPins inputs s.pins }

/-- SAMPLE_TICK (R1, R2, R188). DESIGN CHOICE (notes/assumptions/31.md): the first one serves the early frames after its
samples and before the presence re-read of R95, which the spec leaves open. -/
def sampleTick (inputs : Inputs) (s : State) : State :=
  let s := settleDue s
  if s.clock.started then takeTick inputs s
  else serveEarly (takeTick inputs s)

end Sys2Proof.Machine
end

