-- ==== Sys2Proof/Machine/PowerFamily.lean ====
section
/-! DEFINITION. The commands of supply and time: POWER_ON, POWER_LOSS, SAMPLE_TICK, SITE_SECOND. -/

namespace Sys2Proof.Machine

/-- POWER_ON: the straps are read, the calibration loaded and every block set to its power-on state (R155, R170, R188). On
a device that has supply it is a power loss and a power-on (notes/assumptions/16.md). -/
def execPowerOn (straps : Tri Strap) (s : State) : Result :=
  .next (applyPower straps (if s.powered then settleUrgent s else s))

/-- POWER_LOSS: a persist in progress leaves the store without its mark; the store alone outlasts the loss (R154). -/
def execPowerLoss (s : State) : Result := onLive losePower s

/-- SAMPLE_TICK (R1, R2, R73, R186, R188). -/
def execSampleTick (inputs : Inputs) (s : State) : Result := onLive (sampleTick inputs) s

/-- SITE_SECOND, due from the tick at which the tick within the second wraps (R2, R41, R45). -/
def execSiteSecond (s : State) : Result := onLive eventSecond s

end Sys2Proof.Machine
end

