-- ==== Sys2Proof/Machine/RestartFamily.lean ====
section
/-! DEFINITION. The events of a restart (R156, R186, R187). -/

namespace Sys2Proof.Machine

/-- RESTART_INPUT: the input reads low after it has read high, and a restart is requested. An input last read high falls
with this command (R186, notes/assumptions/9.md). -/
def execRestartInput (s : State) : Result :=
  onLive (fun s => eventRestartInput { s with pins :=
    { s.pins with restartHigh := false, restartEdge := s.pins.restartEdge || s.pins.restartHigh } }) s

/-- RESTART_TAKES_EFFECT: a restart requested at this tick takes effect, as it does before any other command
(R156, R187). -/
def execRestartTakesEffect (s : State) : Result := .next (if s.powered then settleUrgent s else s)

end Sys2Proof.Machine
end

