-- ==== Sys2Proof/Machine/StripFamily.lean ====
section
/-! DEFINITION. The events of a strip channel (R4, R9, R11, R12). -/

namespace Sys2Proof.Machine

/-- SETTLING_COMPLETE: the 8,192nd sample of a SETTLING period takes the channel to IDLE (R4). -/
def execSettlingComplete (c : ChannelId) (s : State) : Result := onLive (eventSettling c) s

/-- HIT_END: the eighth consecutive quiet sample ends a hit (R9, R10, R20, R26). -/
def execHitEnd (c : ChannelId) (s : State) : Result := onLive (eventHitEnd c) s

/-- MAX_HIT_DURATION_EXCEEDED: the channel goes to HELD (R8, R11). -/
def execMaxHitDurationExceeded (c : ChannelId) (s : State) : Result := onLive (eventOverrun c) s

/-- HOLD_COUNT_REACHED: a HELD channel goes to SETTLING (R12). -/
def execHoldCountReached (c : ChannelId) (s : State) : Result := onLive (eventHoldEnd c) s

end Sys2Proof.Machine
end

