-- ==== Sys2Proof/Machine/TestFamily.lean ====
section
/-! DEFINITION. The events of the injection test (R162, R166). -/

namespace Sys2Proof.Machine

/-- INJECTION_PULSE: an injected pulse starts or stops, or the test's phase passes, at this tick (R162). -/
def execInjectionPulse (s : State) : Result := onLive eventInjection s

/-- TEST_EXPIRY: a test that no axle has reached completes without a vehicle (R166). -/
def execTestExpiry (s : State) : Result := onLive eventTestExpiry s

end Sys2Proof.Machine
end

