-- ==== Sys2Proof/Machine/VehicleFamily.lean ====
section
/-! DEFINITION. The events of presence, vehicle timers and trigger pulses (R73, R83 to R85, R112). -/

namespace Sys2Proof.Machine

/-- PRESENCE_OCCUPIED: the lane's input reads occupied from here on, and an edge gives OCCUPIED (R73, R83,
notes/assumptions/9.md). -/
def execPresenceOccupied (l : Lane) (s : State) : Result := onLive (fun s => eventOccupied l (presenceTo l true s)) s

/-- PRESENCE_RELEASED: the lane's input reads not occupied from here on, and an edge gives RELEASED (R73, R83,
notes/assumptions/9.md). -/
def execPresenceReleased (l : Lane) (s : State) : Result := onLive (fun s => eventReleased l (presenceTo l false s)) s

/-- CLOSE_DELAY_EXPIRY: a CLOSING vehicle closes (R84). -/
def execCloseDelayExpiry (l : Lane) (s : State) : Result := onLive (eventCloseDelay l) s

/-- DURATION_EXPIRY: a vehicle open for the max duration closes with TIMEOUT (R85). -/
def execDurationExpiry (l : Lane) (s : State) : Result := onLive (eventDuration l) s

/-- TRIGGER_PULSE_END: the trigger returns to IDLE at its pulse end time (R112). -/
def execTriggerPulseEnd (l : Lane) (s : State) : Result := onLive (eventTrigger l) s

end Sys2Proof.Machine
end

