-- ==== Sys2Proof/Machine/Dispatch.lean ====
section
/-! DEFINITION. One arm for each command. -/

namespace Sys2Proof.Machine

/-- A command's effect on everything but the queue. -/
def exec (i : Instr) (s : State) : Host.Outcome State Fault Refusal :=
  match i with
  | .powerOn straps => Sys2Proof.Machine.execPowerOn straps s
  | .sampleTick inputs => Sys2Proof.Machine.execSampleTick inputs s
  | .settlingComplete channel => Sys2Proof.Machine.execSettlingComplete channel s
  | .hitEnd channel => Sys2Proof.Machine.execHitEnd channel s
  | .maxHitDurationExceeded channel => Sys2Proof.Machine.execMaxHitDurationExceeded channel s
  | .holdCountReached channel => Sys2Proof.Machine.execHoldCountReached channel s
  | .siteSecond => Sys2Proof.Machine.execSiteSecond s
  | .pairingDeadline lane row index => Sys2Proof.Machine.execPairingDeadline lane row index s
  | .rowAExpiry lane => Sys2Proof.Machine.execRowAExpiry lane s
  | .presenceOccupied lane => Sys2Proof.Machine.execPresenceOccupied lane s
  | .presenceReleased lane => Sys2Proof.Machine.execPresenceReleased lane s
  | .closeDelayExpiry lane => Sys2Proof.Machine.execCloseDelayExpiry lane s
  | .durationExpiry lane => Sys2Proof.Machine.execDurationExpiry lane s
  | .triggerPulseEnd lane => Sys2Proof.Machine.execTriggerPulseEnd lane s
  | .injectionPulse => Sys2Proof.Machine.execInjectionPulse s
  | .testExpiry => Sys2Proof.Machine.execTestExpiry s
  | .claimIdleExpiry => Sys2Proof.Machine.execClaimIdleExpiry s
  | .commitTimeoutExpiry => Sys2Proof.Machine.execCommitTimeoutExpiry s
  | .activation => Sys2Proof.Machine.execActivation s
  | .persistComplete readBackEqual => Sys2Proof.Machine.execPersistComplete readBackEqual s
  | .restartInput => Sys2Proof.Machine.execRestartInput s
  | .restartTakesEffect => Sys2Proof.Machine.execRestartTakesEffect s
  | .lineBreak port => Sys2Proof.Machine.execLineBreak port s
  | .interByteGapTimeout port => Sys2Proof.Machine.execInterByteGapTimeout port s
  | .frameReceived port => Sys2Proof.Machine.execFrameReceived port s
  | .responseSent port => Sys2Proof.Machine.execResponseSent port s
  | .noticePulseEnd port => Sys2Proof.Machine.execNoticePulseEnd port s
  | .reminderExpiry port => Sys2Proof.Machine.execReminderExpiry port s
  | .unknownCommand port code tag => Sys2Proof.Machine.execUnknownCommand port code tag s
  | .status port tag => Sys2Proof.Machine.execStatus port tag s
  | .counters port tag => Sys2Proof.Machine.execCounters port tag s
  | .clearCounters port tag => Sys2Proof.Machine.execClearCounters port tag s
  | .notices port tag => Sys2Proof.Machine.execNotices port tag s
  | .ackNotices port tag flags => Sys2Proof.Machine.execAckNotices port tag flags s
  | .setNotice port tag mask lineMode reminder => Sys2Proof.Machine.execSetNotice port tag mask lineMode reminder s
  | .setFilter port tag laneMask classMask format => Sys2Proof.Machine.execSetFilter port tag laneMask classMask format s
  | .setAlerts port tag subscription => Sys2Proof.Machine.execSetAlerts port tag subscription s
  | .fetch port tag => Sys2Proof.Machine.execFetch port tag s
  | .readSeq port tag seq firstAxle => Sys2Proof.Machine.execReadSeq port tag seq firstAxle s
  | .seek port tag target seq => Sys2Proof.Machine.execSeek port tag target seq s
  | .takeAlert port tag => Sys2Proof.Machine.execTakeAlert port tag s
  | .tableSelect port tag table index stepMode => Sys2Proof.Machine.execTableSelect port tag table index stepMode s
  | .tableRead port tag => Sys2Proof.Machine.execTableRead port tag s
  | .tableWrite port tag entry => Sys2Proof.Machine.execTableWrite port tag entry s
  | .commit port tag => Sys2Proof.Machine.execCommit port tag s
  | .discard port tag => Sys2Proof.Machine.execDiscard port tag s
  | .laneMode port tag lane mode => Sys2Proof.Machine.execLaneMode port tag lane mode s
  | .laneTest port tag lane pattern => Sys2Proof.Machine.execLaneTest port tag lane pattern s
  | .channelResume port tag channel => Sys2Proof.Machine.execChannelResume port tag channel s
  | .setClock port tag seconds => Sys2Proof.Machine.execSetClock port tag seconds s
  | .restart port tag => Sys2Proof.Machine.execRestart port tag s
  | .characterReceived port byte stopBitGood => Sys2Proof.Machine.execCharacterReceived port byte stopBitGood s
  | .powerLoss => Sys2Proof.Machine.execPowerLoss s

end Sys2Proof.Machine
end

