-- ==== Sys2Proof/Safety.lean ====
section
/-! DEFINITION. The terms of the claims: the states in which commands act plainly, and the invariants that every step keeps.
An invariant says nothing of a device without supply, whose volatile state no rule reads (notes/assumptions/16.md). -/

namespace Sys2Proof.Machine

/-! ### Where commands act plainly -/

/-- Supply is applied and neither an activation nor a restart is about to take effect. -/
def Live (s : State) : Prop := s.powered = true ∧ s.cc.activationDue = false ∧ s.cc.restartDue = false

/-- A frame that completes at this port now is taken at once (R174, R188). -/
def Taking (p : PortId) (s : State) : Prop :=
  Live s ∧ s.clock.started = true ∧ (s.port p).role ≠ .disabled ∧ (s.port p).tx = .idle

/-- A frame that completes at this port now is taken at once, and every command is admitted (R174, R175). -/
def TakingAny (p : PortId) (s : State) : Prop := Taking p s ∧ (s.port p).role = .maintenance

/-- The state after a response of this frame has begun on a port: its transmitter alone changes (R174, R171). The tick at
which it ends is rounded up (notes/assumptions/11.md). -/
def sending (p : PortId) (frame : List Byte) (s : State) : State :=
  s.withPort p { s.port p with tx := .sending frame (later s.now (characterTicks (s.port p).rate frame.length)) }

/-- The state after a command of this code and tag has been answered on a port (R174, R176). -/
def answered (p : PortId) (code tag : Byte) (r : Reply) (s : State) : State := sending p (responseFrame code tag r) s

/-- The unmasked pending set of a port passes from one flag set to another at a tick (R184, R185): the level modes keep no
state of their own; in PULSE mode a set that was empty and is not starts a pulse, and one that becomes empty clears the
reminder expiry. -/
def noticed (now : Time) (flags : NoticeSet) (x : Port) : Port :=
  let before := x.flags &&& ~~~x.mask
  let after := flags &&& ~~~x.mask
  { x with
    flags := flags
    pulse := if x.lineMode = .pulse ∧ before = 0 ∧ after ≠ 0 then some (later now 16) else x.pulse
    reminderExpiry :=
      if x.lineMode = .pulse ∧ after = 0 then none
      else if x.lineMode = .pulse ∧ before = 0 ∧ x.reminder = true then some (later now 8192)
      else x.reminderExpiry }

/-- The port at which a port command's frame completes, and the frame: code, tag and request fields in order (11.1, R189). -/
def portFrame : Instr → Option (PortId × Frame)
  | .unknownCommand p code tag => some (p, ⟨code, tag, []⟩)
  | .status p tag => some (p, ⟨0x01, tag, []⟩)
  | .counters p tag => some (p, ⟨0x02, tag, []⟩)
  | .clearCounters p tag => some (p, ⟨0x03, tag, []⟩)
  | .notices p tag => some (p, ⟨0x04, tag, []⟩)
  | .ackNotices p tag flags => some (p, ⟨0x05, tag, [flags]⟩)
  | .setNotice p tag mask lineMode reminder => some (p, ⟨0x06, tag, [mask, lineMode, reminder]⟩)
  | .setFilter p tag laneMask classMask format =>
    some (p, ⟨0x10, tag, [laneMask] ++ bytesLE 4 classMask.toNat ++ [format]⟩)
  | .setAlerts p tag subscription => some (p, ⟨0x11, tag, [subscription]⟩)
  | .fetch p tag => some (p, ⟨0x12, tag, []⟩)
  | .readSeq p tag seq firstAxle => some (p, ⟨0x13, tag, bytesLE 4 seq.toNat ++ [firstAxle]⟩)
  | .seek p tag target seq => some (p, ⟨0x14, tag, [target] ++ bytesLE 4 seq.toNat⟩)
  | .takeAlert p tag => some (p, ⟨0x15, tag, []⟩)
  | .tableSelect p tag table index stepMode => some (p, ⟨0x20, tag, [table, index, stepMode]⟩)
  | .tableRead p tag => some (p, ⟨0x21, tag, []⟩)
  | .tableWrite p tag entry => some (p, ⟨0x22, tag, entry⟩)
  | .commit p tag => some (p, ⟨0x23, tag, []⟩)
  | .discard p tag => some (p, ⟨0x24, tag, []⟩)
  | .laneMode p tag lane mode => some (p, ⟨0x30, tag, [lane, mode]⟩)
  | .laneTest p tag lane pattern => some (p, ⟨0x31, tag, [lane, pattern]⟩)
  | .channelResume p tag channel => some (p, ⟨0x32, tag, [channel]⟩)
  | .setClock p tag seconds => some (p, ⟨0x33, tag, bytesLE 4 seconds.toNat⟩)
  | .restart p tag => some (p, ⟨0x34, tag, []⟩)
  | .powerOn _ | .sampleTick _ | .settlingComplete _ | .hitEnd _ | .maxHitDurationExceeded _ | .holdCountReached _
  | .siteSecond | .pairingDeadline _ _ _ | .rowAExpiry _ | .presenceOccupied _ | .presenceReleased _
  | .closeDelayExpiry _ | .durationExpiry _ | .triggerPulseEnd _ | .injectionPulse | .testExpiry | .claimIdleExpiry
  | .commitTimeoutExpiry | .activation | .persistComplete _ | .restartInput | .restartTakesEffect | .lineBreak _
  | .interByteGapTimeout _ | .frameReceived _ | .responseSent _ | .noticePulseEnd _ | .reminderExpiry _
  | .characterReceived _ _ _ | .powerLoss => none

/-- The bytes of a frame from the command code to the payload, which its check value is formed over (11.1, R173). -/
def frameBody (f : Frame) : List Byte := f.code :: f.tag :: BitVec.ofNat 8 f.payload.length :: f.payload

/-- The characters of a command frame on the line (11.1). -/
def commandFrame (f : Frame) : List Byte := [0xC3, 0x3C] ++ frameBody f ++ crcBytes (frameBody f)

/-- Every hit stands in the pool of its own lane-row (R20). -/
def PoolsKeyed (s : State) : Prop := ∀ l r, ∀ h ∈ s.pool l r, h.channel.lane = l ∧ h.channel.row = r

/-- A table's entry lies within the ranges of R137 to R141, R98 and R104; a test pattern's speed within the set's own band
(R145). -/
def EntryInRange (set : CalSet) (t : TableId) (index : Nat) : Prop :=
  let within (lo hi x : Nat) : Prop := lo ≤ x ∧ x ≤ hi
  let i4 := (ix4OfIndex index).getD .one
  match t with
  | .site =>
    let e := set.site
    within 16 1024 e.wp ∧ within 1000 60000 e.vMin ∧ within 1000 60000 e.vMax ∧ within 300 2000 e.splitDistance ∧
    within 50 2000 e.closeDelay ∧ within 2 60 e.maxDuration ∧ within 80 300 e.groupDistance ∧ within 0 250 e.tolerance ∧
    within 10 500 e.speedVariation ∧ within 1024 8192 e.maxHit ∧ within 0 7 e.filterShift ∧ within 10 3600 e.staleLimit ∧
    within 1 60 e.commitTimeout ∧ within 1 255 e.triggerWidth
  | .lane => within 500 6000 (set.lanes.get i4).spacing ∧ -640 ≤ (set.lanes.get i4).fallback ∧ (set.lanes.get i4).fallback ≤ 1360
  | .channel =>
    let e := set.channels.chan ((channelOfIndex index).getD ⟨.one, .a, .right⟩)
    within 1024 16383 e.gain ∧ within 0 3 e.coarse ∧ within 0 15 e.fine
  | .probe => True
  | .temp =>
    if index = 8 then within 0 160 set.control.hysteresis ∧ within 1 4096 set.control.rate
    else
      let e := set.temp.toList.getD index ⟨0, 0⟩
      (-640 : Int) ≤ e.temp ∧ e.temp ≤ 1360 ∧ within 8192 32767 e.factor
  | .speed =>
    let e := set.speed.toList.getD index ⟨0, 0⟩
    within 1000 60000 e.speed ∧ within 8192 32767 e.factor
  | .cls =>
    let e := set.classes.toList.getD index defaultClass
    within 1 31 e.code ∧ within 1 16 e.countMin ∧ within 1 16 e.countMax ∧
    (∀ x, some x ∈ e.rules.toList → within 0 2000 x.1 ∧ within 0 2000 x.2) ∧
    (∀ x, e.grossMin = some x → x ≤ 1048575) ∧ (∀ x, e.grossMax = some x → x ≤ 1048575) ∧ within 0 15 e.profile
  | .profile =>
    let e := set.profiles.toList.getD index defaultProfile
    e.single ≤ 1048575 ∧ e.tandem ≤ 1048575 ∧ e.tridem ≤ 1048575 ∧ e.gross ≤ 1048575
  | .testpat =>
    let e := set.patterns.get i4
    within 2 8 e.axleCount ∧ (∀ x ∈ e.spacings.toList, within 100 2000 x) ∧
    (if set.site.vMin < set.site.vMax then within set.site.vMin set.site.vMax e.speed ∧ e.speed ≤ 65535
     else within 1000 60000 e.speed) ∧
    within 64 1024 e.amplitude

/-! ### The fields of a table entry -/

/-- The kinds of field that R145 clamps, each by its own rule: a number with a range, a signed number with a range, a choice
of so many codes with the code of its built-in default, and a number that has an absent coding. -/
inductive FieldKind where
  | number (lo hi : Nat)
  | signed (lo hi : Int)
  | choice (codes fallback : Nat)
  | optional (absent lo hi : Nat)
  deriving DecidableEq, Repr

/-- The code stored for a code written (R145, R190). -/
def FieldKind.stored (k : FieldKind) (v : Nat) : Nat :=
  match k with
  | .number lo hi => if v < lo then lo else if hi < v then hi else v
  | .signed lo hi =>
    let t : Int := if v < 32768 then v else (v : Int) - 65536
    ((if t < lo then lo else if hi < t then hi else t) % 65536).toNat
  | .choice codes fallback => if v < codes then v else fallback
  | .optional absent lo hi => if v = absent then v else if v < lo then lo else if hi < v then hi else v

/-- A code written is clamped (R145). -/
def FieldKind.clamps (k : FieldKind) (v : Nat) : Bool :=
  match k with
  | .number lo hi => decide (v < lo ∨ hi < v)
  | .signed lo hi =>
    let t : Int := if v < 32768 then v else (v : Int) - 65536
    decide (t < lo ∨ hi < t)
  | .choice codes _ => decide (codes ≤ v)
  | .optional absent lo hi => decide (v ≠ absent ∧ (v < lo ∨ hi < v))

/-- The fields of an entry in the order of 11.4, with the ranges and defaults of R137 to R141, R98 and R104; a test pattern's
speed has the band of the set's own SITE entry, or 1,000..60,000 where its ends are not in order (R145). -/
def fieldKinds (set : CalSet) (t : TableId) (index : Nat) : List FieldKind :=
  match t with
  | .site => [.number 16 1024, .number 1000 60000, .number 1000 60000, .number 300 2000, .number 50 2000, .number 2 60,
      .number 80 300, .number 0 250, .number 10 500, .number 1024 8192, .number 0 7, .number 10 3600, .number 1 60,
      .number 1 255]
  | .lane => [.number 500 6000, .choice 2 0, .choice 2 0, .choice 3 0, .number 1 4, .number 1 4, .optional 0xFF 1 4,
      .signed (-640) 1360]
  | .channel => [.choice 2 1, .number 1024 16383, .number 0 3, .number 0 15]
  | .probe => [.choice 2 1]
  | .temp =>
    if index = 8 then [.choice 2 0, .number 0 160, .number 1 4096, .choice 2 0, .choice 2 0]
    else [.signed (-640) 1360, .number 8192 32767]
  | .speed => [.number 1000 60000, .number 8192 32767]
  | .cls => [.choice 2 0, .number 1 31, .number 1 16, .number 1 16] ++ List.replicate 16 (.optional 0xFFFF 0 2000) ++
      [.optional 0xFFFFFFFF 0 1048575, .optional 0xFFFFFFFF 0 1048575, .number 0 15]
  | .profile => List.replicate 4 (.number 0 1048575)
  | .testpat => [.choice 2 (if index = 0 then 1 else 0), .number 2 8] ++ List.replicate 7 (.number 100 2000) ++
      [if set.site.vMin < set.site.vMax then .number set.site.vMin set.site.vMax else .number 1000 60000, .number 64 1024]

/-- The bounds of so many spacing rules at the head of a list of fields: both are absent where one is (R190). -/
def joinBounds : Nat → List Nat → List Nat
  | n + 1, lo :: hi :: rest =>
    (if lo = 0xFFFF ∨ hi = 0xFFFF then [0xFFFF, 0xFFFF] else [lo, hi]) ++ joinBounds n rest
  | _, fields => fields

/-- The fields of an entry as stored for the fields written (R145, R190). -/
def storedFields (set : CalSet) (t : TableId) (index : Nat) (written : List Nat) : List Nat :=
  let each := ((fieldKinds set t index).zip written).map fun (k, v) => k.stored v
  match t with
  | .cls => each.take 4 ++ joinBounds 8 (each.drop 4)
  | _ => each

/-! ### Reading a payload -/

/-- The number in so many bytes at an offset of a payload, least significant byte first (R189). -/
def numberAt (payload : List Byte) (offset width : Nat) : Nat := numberLE ((payload.drop offset).take width)

/-- The state after a flag set has been raised at every port that is not DISABLED (R170, R181). -/
def raised (f : NoticeSet) (s : State) : State :=
  { s with ports := Tri.of fun p =>
      if (s.port p).role = .disabled then s.port p else noticed s.now ((s.port p).flags ||| f) (s.port p) }

/-! ### Invariants -/

/-- The tick within the second is the sample counter modulo 16,384 (R2). -/
def ClockInv (s : State) : Prop := s.clock.tick = s.clock.now.toNat % 16384

/-- The ring holds at most 256 records under an unbroken run of sequence numbers that ends below the next (R117). -/
def RingRun (r : Rr) : Prop :=
  r.ring.length ≤ 256 ∧
  ∀ i x, r.ring[i]? = some x → x.seq = r.next - BitVec.ofNat 32 r.ring.length + BitVec.ofNat 32 i

/-- The ring's run, and every port's cursor between the oldest held and the next number (R117, R120). -/
def RingInv (s : State) : Prop :=
  RingRun s.rr ∧ ∀ p, s.disabled p = false → s.rr.age (s.ringPort p).cursor ≤ s.rr.count

/-- Lists keep to the capacities the spec gives them: pools 8 (R26), row-A queues 16 (R29), axle lists 16 (5.2),
alert queues 16 (R123). -/
def CapacityInv (s : State) : Prop :=
  (∀ l r, (s.pool l r).length ≤ 8) ∧ (∀ l, (s.queue l).length ≤ 16) ∧ (∀ l, (s.context l).axles.length ≤ 16) ∧
  ∀ p, (s.ringPort p).alerts.length ≤ 16

/-- A context that is EMPTY has all its other parts cleared (R75). -/
def EmptyInv (s : State) : Prop := ∀ l, (s.context l).state = .empty → s.context l = emptyContext

/-- Claim, commit, persist and restart stand together as Chapter 8 gives (R146, R147, R149, R151, R154, R156): without a
claim the pending set is the active set; COMMIT_WAIT needs a claim and no persist, and its timeout runs until its
activation is due; the idle expiry runs exactly while a claim is held outside COMMIT_WAIT; a persist leaves the store
without its mark; a pending restart waits behind a persist, and a
restart that is about to take effect finds none running. -/
def ClaimInv (s : State) : Prop :=
  s.powered = true →
    (s.cc.claim = none → s.cc.edits = s.cc.active) ∧
    (s.cc.waiting = true → s.cc.claim.isSome = true ∧ s.cc.persist = none) ∧
    (s.cc.claimExpiry.isSome = true ↔ s.cc.claim.isSome = true ∧ s.cc.waiting = false) ∧
    (s.cc.waiting = true → s.cc.commitExpiry.isSome = true ∨ s.cc.activationDue = true) ∧
    (s.cc.waiting = false → s.cc.commitExpiry = none ∧ s.cc.activationDue = false ∧ s.cc.activationNear = false) ∧
    (s.cc.persist.isSome = true → s.cc.store.mark = false) ∧
    (s.cc.restartPending = true → s.cc.persist.isSome = true ∨ s.cc.restartDue = true) ∧
    (s.cc.restartDue = true → s.cc.persist = none ∧ s.cc.activationDue = false)

/-- A commit that waits with every context EMPTY is about to be activated, or is so before its tick ends (R151). -/
def CommitInv (s : State) : Prop :=
  s.cc.waiting = true → allEmpty s = true → s.cc.activationDue = true ∨ s.cc.activationNear = true

/-- A lane is in TEST exactly while a test runs on it, so at most one is (R160, R168). -/
def TestInv (s : State) : Prop := ∀ l, s.mode l = .test ↔ s.testLane = some l

/-- A channel is OFF exactly while its lane is CLOSED or it is disabled in the active set (R3). -/
def OffInv (s : State) : Prop :=
  ∀ c, (s.channel c).state = .off ↔ (s.mode c.lane = .closed ∨ (s.set.channels.chan c).enabled = false)

/-- Every hit stands in the pool of its own lane-row, and a CLOSED lane is quiet: pools and queue empty, context EMPTY, not
occupied, trigger IDLE (R36, R93, R113, R158). -/
def ClosedInv (s : State) : Prop :=
  (∀ l r, ∀ h ∈ s.pool l r, h.channel.lane = l ∧ h.channel.row = r) ∧
  ∀ l, s.mode l = .closed →
    (∀ r, s.pool l r = []) ∧ s.queue l = [] ∧ (s.context l).state = .empty ∧ s.isOccupied l = false ∧
    s.cle.triggers.get l = none

/-- The lane invariants together: the device's lanes as Chapters 1, 5 and 9 give them (R3, R75, R158, R160). -/
def LaneInv (s : State) : Prop := TestInv s ∧ OffInv s ∧ ClosedInv s ∧ EmptyInv s

end Sys2Proof.Machine
end

