-- ==== Sys2Proof/WellFormed.lean ====
section
/-! DEFINITION. What a sender may put into a command: the checks that the operands' types do not already make. A command
that fails one is no event of the hardware (`exec` still answers it: see the constructor's meaning). -/

namespace Sys2Proof

/-- Codes that name a command (11.1). -/
def commandCodes : List Nat :=
  [0x01, 0x02, 0x03, 0x04, 0x05, 0x06, 0x10, 0x11, 0x12, 0x13, 0x14, 0x15, 0x20, 0x21, 0x22, 0x23, 0x24,
   0x30, 0x31, 0x32, 0x33, 0x34]

/-- The checks on a command's operands: a pool holds at most nine hits, and the one that decides stands among them
(R26); UNKNOWN_COMMAND carries a code that names no command (R175); a frame's payload is at most 240 bytes (11.1). -/
def Instr.wellFormed : Instr → Bool
  | .pairingDeadline _ _ index => index < 9
  | .unknownCommand _ code _ => !commandCodes.contains code.toNat
  | .tableWrite _ _ entry => entry.length ≤ 240
  | .powerOn _ | .sampleTick _ | .settlingComplete _ | .hitEnd _ | .maxHitDurationExceeded _ | .holdCountReached _
  | .siteSecond | .rowAExpiry _ | .presenceOccupied _ | .presenceReleased _ | .closeDelayExpiry _ | .durationExpiry _
  | .triggerPulseEnd _ | .injectionPulse | .testExpiry | .claimIdleExpiry | .commitTimeoutExpiry | .activation
  | .persistComplete _ | .restartInput | .restartTakesEffect | .lineBreak _ | .interByteGapTimeout _
  | .frameReceived _ | .responseSent _ | .noticePulseEnd _ | .reminderExpiry _ | .status _ _ | .counters _ _
  | .clearCounters _ _ | .notices _ _ | .ackNotices _ _ _ | .setNotice _ _ _ _ _ | .setFilter _ _ _ _ _
  | .setAlerts _ _ _ | .fetch _ _ | .readSeq _ _ _ _ | .seek _ _ _ _ | .takeAlert _ _ | .tableSelect _ _ _ _ _
  | .tableRead _ _ | .commit _ _ | .discard _ _ | .laneMode _ _ _ _ | .laneTest _ _ _ _ | .channelResume _ _ _
  | .setClock _ _ _ | .restart _ _ | .characterReceived _ _ _ | .powerLoss => true

end Sys2Proof
end

