-- ==== Sys2Proof/Certificates/Slice0/Obligations.lean ====
section
/-! DEFINITION. The statements about the model. Numbers R1 to R190 are the spec's rules; `Live`, `Taking`, `answered`,
`raised` and the invariants are in Safety.lean. A clause that rests on the model's choice names its log entry; that the
answer's end is rounded up to a tick is the model's throughout (notes/assumptions/11.md). -/

open Sys2Proof Sys2Proof.Machine

/-! ### Steps and power -/

/-- A step takes the command at the front of the queue, on the state with the queue's rest; on an empty queue the block
idles (the model's choice, notes/assumptions/3.md). -/
def Obligations.StepTakesFront : Prop :=
  (∀ (c : Instr) (rest : List Instr) (s : State), s.pending = c :: rest → step s = exec c { s with pending := rest }) ∧
  ∀ s : State, s.pending = [] → step s = .next s

/-- Every command answers a next state and leaves the queue alone; without supply every command but POWER_ON does nothing
(00_scope.md 5.6; the model's choice, notes/assumptions/16.md). An activation whose moment has come and a restart that takes
effect (R151, R156) come before every other command (that they do is DEDUCED, notes/assumptions/6.md): each command acts as
on the state that they leave, which is what ACTIVATION or RESTART_TAKES_EFFECT answers. -/
def Obligations.EveryCommandAnswers : Prop :=
  (∀ (c : Instr) (s : State), ∃ t, exec c s = .next t ∧ t.pending = s.pending ∧
     ((∀ straps, c ≠ .powerOn straps) → s.powered = false → t = s)) ∧
  ∀ s : State, s.powered = true →
    (∀ c : Instr, exec c s = exec c (settleUrgent s)) ∧
    (s.cc.activationDue = false → s.cc.restartDue = false → settleUrgent s = s) ∧
    (s.cc.activationDue = true → s.cc.restartDue = false → exec .activation s = .next (settleUrgent s)) ∧
    (s.cc.restartDue = true → exec .restartTakesEffect s = .next (settleUrgent s))

/-- The state after reset meets every invariant stated below. -/
def Obligations.ResetMeetsInvariants : Prop :=
  ClockInv State.reset ∧ RingInv State.reset ∧ CapacityInv State.reset ∧ ClaimInv State.reset ∧ CommitInv State.reset ∧
  LaneInv State.reset

/-- POWER_ON loads the calibration (R155): a store with its mark and an agreeing check value gives the active set and
its revision; any other leaves the built-in defaults with revision 0, the store BLANK and FAULT at every port that is
not DISABLED (R170). POWER_LOSS with a persist in progress leaves the store without its mark, so that the next POWER_ON
finds it BLANK (R154); without one it leaves the store as it is. A POWER_ON of a device that has supply acts as
POWER_LOSS and POWER_ON (the model's choice, notes/assumptions/16.md). -/
def Obligations.CalibrationAcrossPower : Prop :=
  (∀ (straps : Tri Strap) (s : State), s.powered = false → s.cc.persist = none →
     ∃ t, exec (.powerOn straps) s = .next t ∧ t.powered = true ∧ t.cc.store = s.cc.store ∧
       (s.cc.store.mark = true ∧ s.cc.store.checkAgrees = true →
         t.cc.active = s.cc.store.set ∧ t.cc.revision = s.cc.store.revision ∧ t.cc.storeState = .valid ∧
         ∀ p, (t.port p).flags = 0) ∧
       (¬(s.cc.store.mark = true ∧ s.cc.store.checkAgrees = true) →
         t.cc.active = builtIn ∧ t.cc.revision = 0 ∧ t.cc.storeState = .blank ∧
         ∀ p, (t.port p).flags = if (straps.get p).role = .disabled then 0 else Notice.fault) ∧
       t.cc.edits = t.cc.active ∧ t.cc.claim = none ∧ t.cc.claimExpiry = none ∧ t.cc.waiting = false ∧
       t.cc.commitExpiry = none ∧ t.cc.activationDue = false ∧ t.cc.activationNear = false ∧ t.cc.persist = none ∧
       t.cc.restartPending = false ∧ t.cc.restartDue = false) ∧
  (∀ s : State, Live s →
     ∃ t, exec .powerLoss s = .next t ∧ t.powered = false ∧
       t.cc.store = (if s.cc.persist.isSome = true then { s.cc.store with mark := false } else s.cc.store) ∧
       (∀ straps, exec (.powerOn straps) s = exec (.powerOn straps) t) ∧
       (s.cc.persist.isSome = true → ∀ straps, ∃ u, exec (.powerOn straps) t = .next u ∧ u.cc.storeState = .blank ∧
         u.cc.active = builtIn ∧ u.cc.revision = 0))

/-- POWER_ON sets every other block from the active set so loaded (R18, R39, R57, R95, R115, R134, R168, R170, R188). The
value 0 of a baseline that no sample has seeded is the model's (notes/assumptions/14.md). -/
def Obligations.PowerOnSetsBlocks : Prop :=
  ∀ (straps : Tri Strap) (s : State), ∃ t, exec (.powerOn straps) s = .next t ∧
    t.clock = ⟨0, 0, 0, false, false⟩ ∧ t.pins.restartHigh = false ∧
    (∀ c, t.channel c =
      { state := if (t.set.channels.chan c).enabled = true then .settling else .off, baseline := 0, seeded := false,
        settling := 0, tStart := 0, tLast := 0, area := 0, saturated := false, quietRun := 0, quietArea := 0,
        quietSat := false, overLong := false, hold := 0, health := .untested, ratio := none }) ∧
    (∀ l r, t.pool l r = []) ∧
    (∀ l, t.queue l = [] ∧ t.xf.windows.get l = transitWindow t.set.site (t.set.lanes.get l).spacing) ∧
    (∀ i, t.ptu.probes.get i = ⟨if t.set.probes.get i = true then .stale else .off, none, 0, false⟩) ∧
    (∀ l, t.ptu.lanes.get l = freshLaneTemp t.set t.ptu.probes (t.set.lanes.get l) ∧
      (t.ptu.lanes.get l).temp = (t.set.lanes.get l).fallback ∧
      (t.ptu.lanes.get l).substituted = decide ((t.set.lanes.get l).kind ≠ .fixed)) ∧
    (∀ l, t.context l = emptyContext ∧ t.isOccupied l = false ∧ t.cle.triggers.get l = none ∧ t.mode l = .opened) ∧
    t.early = [] ∧ t.ltg.test = none ∧ t.ltg.last = none ∧ t.rr.ring = [] ∧ t.rr.next = 1 ∧
    (∀ l, laneCounters t l = [0, 0, 0, 0, 0, 0, 0]) ∧
    ∀ p, t.ringPort p = ⟨1, 0xF#4, 0xFFFFFFFF#32, .full, (match (straps.get p).role with
        | .enforcement => .enforceableOnly | .statistics => .off | .maintenance => .all | .disabled => .off), [], 0, 0⟩ ∧
      ∃ f, t.port p = ⟨(straps.get p).role, (straps.get p).rate, .hunting, 0, none, .idle, ⟨.site, 0, .none⟩, 0, 0, f,
        0, .levelLow, false, none, none⟩

/-! ### The sample tick -/

/-- SAMPLE_TICK with nothing else due (R1, R2, R16): the sample counter and the tick within the second advance together,
the inputs are read, and every channel handles its sample with the injected excess of a test; all else is as before. At the
wrap the model leaves the seconds count to SITE_SECOND (its split of R2, DEDUCED, notes/assumptions/7.md). The first tick
after power-on advances neither clock, and serves the frames that completed before it, in the order they completed, as if
each completed at it (R188; the list that holds them is the model's, notes/assumptions/23.md; that they come before any other
event of that tick too, notes/assumptions/31.md). -/
def Obligations.SampleTickActs : Prop :=
  (∀ (inputs : Inputs) (s : State), s.powered = true → s.clock.started = true → dueNow s = false →
     ∃ t, exec (.sampleTick inputs) s = .next t ∧
       t.clock = ⟨s.clock.now + 1, s.clock.seconds, if s.clock.tick < 16383 then s.clock.tick + 1 else 0,
         decide (16383 ≤ s.clock.tick), true⟩ ∧
       t.pins = ⟨inputs.presence, inputs.probes, inputs.restartHigh, s.pins.restartHigh && !inputs.restartHigh⟩ ∧
       (∀ c, t.channel c = sampleChannel (s.set.channels.chan c) s.set.site.maxHit t.now (inputs.samples.chan c).toNat
         (injectedExcess s t.now c) (s.channel c)) ∧
       t = { s with clock := t.clock, pins := t.pins, sfe := { s.sfe with channels := t.sfe.channels } }) ∧
  (∀ (inputs : Inputs) (s : State), s.powered = true → s.clock.started = false → dueNow s = false →
     let served (u : State) (x : PortId × Frame) : State :=
       let y := u.port x.1
       settleUrgent
         (if y.role = .disabled then u
          else if y.tx = .idle then
            (let a := dispatch x.1 x.2 u
             answered x.1 x.2.code x.2.tag a.2 a.1)
          else if y.buffer = none then u.withPort x.1 { y with buffer := some x.2 }
          else u.withPort x.1 { y with overruns := y.overruns + 1 })
     ∃ t, exec (.sampleTick inputs) s = .next (s.early.foldl served t) ∧
       t.pins = ⟨inputs.presence, inputs.probes, inputs.restartHigh, s.pins.restartHigh && !inputs.restartHigh⟩ ∧
       (∀ c, t.channel c = sampleChannel (s.set.channels.chan c) s.set.site.maxHit s.now (inputs.samples.chan c).toNat
         (injectedExcess s s.now c) (s.channel c)) ∧
       t = { s with
         clock := { s.clock with started := true }, pins := t.pins, early := []
         sfe := { s.sfe with channels := t.sfe.channels } })

/-- The tick within the second equals the sample counter modulo 16,384 in every state that a step gives (R2). -/
def Obligations.ClockStaysAligned : Prop := ∀ s t : State, ClockInv s → step s = .next t → ClockInv t

/-- A channel's sample. Outside a hit (R3, R4, R5, R7, R12): OFF handles none; SETTLING seeds B, then moves it by a
quarter; IDLE starts a hit at the threshold, else moves B by a sixty-fourth; HELD counts quiet samples. In a hit (R8): a
quiet sample joins the quiet run; another absorbs the run and is counted, the area held at 16,777,215 with the
saturation mark; the max hit duration is exceeded where the hit has not ended and the samples since its start are more.
The threshold and the end level follow the table of R6. No sample takes B outside 0..65,535 (R5) or the area outside
0..16,777,215 (R8). -/
def Obligations.ChannelHandlesSample : Prop :=
  (∀ (e : ChannelEntry) (m : Nat) (now : Time) (x inj : Nat) (c : Channel),
     let q : Int := (x : Int) - ((c.baseline / 16 : Nat) : Int) + inj
     (c.state = .off → sampleChannel e m now x inj c = c) ∧
     (c.state = .settling → sampleChannel e m now x inj c =
       { c with
         baseline := if c.seeded = true then (c.baseline + Int.tdiv (16 * x - c.baseline) 4 : Int).toNat else 16 * x
         seeded := true, settling := c.settling + 1 }) ∧
     (c.state = .idle → startThreshold e ≤ q → sampleChannel e m now x inj c =
       { c with
         state := .inHit, tStart := now, tLast := now, area := q.toNat, saturated := decide (x = 4095), quietRun := 0,
         quietArea := 0, quietSat := false, overLong := false }) ∧
     (c.state = .idle → q < startThreshold e → sampleChannel e m now x inj c =
       { c with baseline := (c.baseline + Int.tdiv (16 * x - c.baseline) 64 : Int).toNat }) ∧
     (c.state = .held → sampleChannel e m now x inj c =
       { c with hold := if q < endLevel e then c.hold + 1 else 0 })) ∧
  (∀ (e : ChannelEntry) (m : Nat) (now : Time) (x inj : Nat) (c : Channel),
     let q : Int := (x : Int) - ((c.baseline / 16 : Nat) : Int) + inj
     let tooLong (run : Nat) : Bool := decide (run < 8 ∧ m < (now - c.tStart).toNat + 1)
     c.state = .inHit → c.area ≤ 16777215 →
     (q < endLevel e → sampleChannel e m now x inj c =
       { c with
         quietRun := c.quietRun + 1, quietArea := c.quietArea + (max q 0).toNat
         quietSat := c.quietSat || decide (x = 4095), overLong := tooLong (c.quietRun + 1) }) ∧
     (endLevel e ≤ q → sampleChannel e m now x inj c =
       { c with
         area := min (c.area + c.quietArea + q.toNat) 16777215
         saturated := c.saturated || c.quietSat || decide (x = 4095) || decide (16777215 < c.area + c.quietArea + q.toNat)
         quietRun := 0, quietArea := 0, quietSat := false, tLast := now, overLong := tooLong 0 })) ∧
  (∀ e : ChannelEntry, e.coarse ≤ 3 →
     startThreshold e = ((24 * 2 ^ e.coarse + 2 * e.fine : Nat) : Int) ∧
     endLevel e = (((24 * 2 ^ e.coarse + 2 * e.fine) / 2 : Nat) : Int) ∧
     (e.fine ≤ 15 → 24 ≤ startThreshold e ∧ startThreshold e ≤ 222 ∧ 12 ≤ endLevel e ∧ endLevel e ≤ 111)) ∧
  ∀ (e : ChannelEntry) (m : Nat) (now : Time) (x inj : Nat) (c : Channel), x ≤ 4095 → inj ≤ 1024 →
    c.baseline ≤ 65535 → c.area ≤ 16777215 →
    (sampleChannel e m now x inj c).baseline ≤ 65535 ∧ (sampleChannel e m now x inj c).area ≤ 16777215

/-! ### Strip events -/

/-- SETTLING_COMPLETE takes a channel to IDLE after 8,192 samples (R4); HOLD_COUNT_REACHED takes a HELD channel to SETTLING
after 8,192 quiet ones, with the seeded mark clear and the settling count 0 (R4, R12); nothing else changes.
MAX_HIT_DURATION_EXCEEDED (R11): the hit is discarded, the channel HELD with hold count 0 and B frozen, the lane's held
entry count incremented, a context that is OPEN or CLOSING marked CHANNEL_HELD, and FAULT set at all ports. What a channel
holds of a hit or a hold it has left is the model's choice (notes/assumptions/22.md). -/
def Obligations.ChannelStateEvents : Prop :=
  (∀ (s : State) (id : ChannelId), Live s →
     ((s.channel id).state = .settling → 8192 ≤ (s.channel id).settling →
       exec (.settlingComplete id) s = .next (s.withChannel id { s.channel id with state := .idle })) ∧
     ((s.channel id).state = .held → 8192 ≤ (s.channel id).hold →
       exec (.holdCountReached id) s = .next (s.withChannel id
         { (s.channel id).clearHit with state := .settling, seeded := false, settling := 0, hold := 0 }))) ∧
  (∀ (s : State) (id : ChannelId), Live s → (s.channel id).state = .inHit → (s.channel id).overLong = true →
     let u := (s.withChannel id { (s.channel id).clearHit with state := .held, hold := 0 }).countHeld id.lane
     exec (.maxHitDurationExceeded id) s =
       .next (raised Notice.fault
         (if (s.context id.lane).state = .empty then u
          else u.withContext id.lane { s.context id.lane with channelHeld := true })))

/-- HIT_END. A hit of 1 or 2 samples is a noise hit, counted for the lane and discarded (R9). A longer one, with the fields
of R10 and the receipt time, Wp and deadline of R20, takes its place in its lane-row's pool: before the first hit of later
hit time, or of the same hit time and tick of receipt and the LEFT half where it is of the RIGHT; where the pool already
held eight hits the first of the nine decides at once (R26). Either way the channel is IDLE with B as it was frozen. What a
channel holds of a hit or a hold it has left is the model's choice (notes/assumptions/22.md). -/
def Obligations.HitEndActs : Prop :=
  (∀ (s : State) (id : ChannelId), Live s → CommitInv s →
     (s.channel id).state = .inHit → 8 ≤ (s.channel id).quietRun →
     ((s.channel id).tLast - (s.channel id).tStart).toNat + 1 ≤ 2 →
     exec (.hitEnd id) s =
       .next ((s.withChannel id { (s.channel id).clearHit with state := .idle }).countNoise id.lane)) ∧
  (∀ (s : State) (id : ChannelId), Live s → CommitInv s →
     let c := s.channel id
     let dur := (c.tLast - c.tStart).toNat + 1
     let h : PoolHit := ⟨id, c.tStart + BitVec.ofNat 32 ((dur - 1) / 2), c.area, c.saturated, decide (c.health = .suspect),
       s.now, s.set.site.wp, s.now + BitVec.ofNat 32 s.set.site.wp⟩
     let u := s.withChannel id { c.clearHit with state := .idle }
     let ahead (k : PoolHit) : Prop := timeDiff h.time k.time < 0 ∨
       (h.time = k.time ∧ h.receipt = k.receipt ∧ h.channel.half = .right ∧ k.channel.half = .left)
     c.state = .inHit → 8 ≤ c.quietRun → 3 ≤ dur →
     ∃ before after, s.pool id.lane id.row = before ++ after ∧ (∀ k ∈ before, ¬ ahead k) ∧
       (∀ k, after.head? = some k → ahead k) ∧
       ((s.pool id.lane id.row).length < 8 →
         exec (.hitEnd id) s = .next (u.withPool id.lane id.row (before ++ h :: after))) ∧
       (8 ≤ (s.pool id.lane id.row).length → ∀ k, (before ++ h :: after).head? = some k →
         exec (.hitEnd id) s = .next (noteEmptied (decideHit k (u.withPool id.lane id.row (before ++ h :: after))))))

/-! ### The site second -/

/-- SITE_SECOND (R2, R41, R45): the seconds count increments, the probes are read, then every lane is updated from the
probes so read; FAULT is set at all ports where a reading sets it (R43). Nothing else changes. -/
def Obligations.SiteSecondActs : Prop :=
  ∀ s : State, Live s → s.clock.secondDue = true →
    let read (i : ProbeId) := readProbeInput s.set.site (s.pins.probes.get i) (s.ptu.probes.get i)
    let probes := Quad.of fun i => (read i).1
    let u := { s with
      clock := { s.clock with seconds := s.clock.seconds + 1, secondDue := false }
      ptu := ⟨probes, Quad.of fun l => updateLaneTemp s.set probes (s.set.lanes.get l) (s.ptu.lanes.get l)⟩ }
    ((∃ i, (read i).2 = true) → exec .siteSecond s = .next (raised Notice.fault u)) ∧
    ((∀ i, (read i).2 = false) → exec .siteSecond s = .next u)

/-- A probe's reading (R41, R42, R43): OFF is not read; an accepted reading seeds a STALE probe and filters into a
HOLDING or VALID one; a rejected reading holds, counts, and at the stale limit goes STALE or is reported once, setting
FAULT. The filter (R44): the magnitude of T − Tf plus half of 2^k is divided by 2^k and floored, the sign restored, and
the result added to Tf; with k = 0 Tf becomes T; the new Tf lies between Tf and T. -/
def Obligations.ProbeReadingAndFilter : Prop :=
  (∀ (site : SiteEntry) (reading : Option Int) (p : Probe), 2 ≤ site.staleLimit →
     let rejected := ∀ t, reading = some t → ¬(-640 ≤ t ∧ t ≤ 1360)
     (p.state = .off → readProbeInput site reading p = (p, false)) ∧
     (∀ t, reading = some t → -640 ≤ t → t ≤ 1360 →
       (p.state = .stale → readProbeInput site reading p = (⟨.valid, some t, 0, false⟩, false)) ∧
       (∀ tf, p.filtered = some tf → p.state = .holding ∨ p.state = .valid →
         readProbeInput site reading p = (⟨.valid, some (filterStep site.filterShift tf t), 0, false⟩, false))) ∧
     (rejected → p.state = .valid → readProbeInput site reading p = ({ p with state := .holding, rejected := 1 }, false)) ∧
     (rejected → p.state = .holding → readProbeInput site reading p =
       if site.staleLimit ≤ p.rejected + 1 then (⟨.stale, none, p.rejected + 1, true⟩, true)
       else ({ p with rejected := p.rejected + 1 }, false)) ∧
     (rejected → p.state = .stale → readProbeInput site reading p =
       if site.staleLimit ≤ min (p.rejected + 1) 3600 ∧ p.reported = false
       then ({ p with rejected := min (p.rejected + 1) 3600, reported := true }, true)
       else ({ p with rejected := min (p.rejected + 1) 3600 }, false))) ∧
  (∀ (k : Nat) (tf t : Int),
     (k = 0 → filterStep k tf t = t) ∧
     (0 < k → filterStep k tf t = tf + (t - tf).sign * (((t - tf).natAbs + 2 ^ (k - 1)) / 2 ^ k : Nat)) ∧
     min tf t ≤ filterStep k tf t ∧ filterStep k tf t ≤ max tf t)

/-- A lane's effective temperature and substituted state, row by row of the table of R46; the temperature lies within
-640..1,360 where every probe's value and the fallback do. -/
def Obligations.EffectiveTemperature : Prop :=
  ∀ (probes : Quad Probe) (e : LaneEntry),
    let value (i : ProbeId) (t : Int) : Prop :=
      ((probes.get i).state = .valid ∨ (probes.get i).state = .holding) ∧ (probes.get i).filtered = some t
    let dead (i : ProbeId) : Prop := (probes.get i).state = .off ∨ (probes.get i).state = .stale
    let unusable : Prop := (e.kind = .probe ∧ dead e.probeP) ∨ (e.kind = .mean ∧ dead e.probeP ∧ dead e.probeQ)
    (∀ t, e.kind = .probe → value e.probeP t → effectiveTemp probes e = (t, false)) ∧
    (∀ t u, e.kind = .mean → value e.probeP t → value e.probeQ u →
      effectiveTemp probes e = (roundHalfAway (t + u) 2, false)) ∧
    (∀ t, e.kind = .mean → (value e.probeP t ∧ dead e.probeQ) ∨ (dead e.probeP ∧ value e.probeQ t) →
      effectiveTemp probes e = (t, true)) ∧
    (∀ a t, unusable → e.alternate = some a → value a t → effectiveTemp probes e = (t, true)) ∧
    (unusable → (∀ a, e.alternate = some a → dead a) → effectiveTemp probes e = (e.fallback, true)) ∧
    (e.kind = .fixed → effectiveTemp probes e = (e.fallback, false)) ∧
    ((∀ i t, (probes.get i).filtered = some t → -640 ≤ t ∧ t ≤ 1360) → -640 ≤ e.fallback → e.fallback ≤ 1360 →
      -640 ≤ (effectiveTemp probes e).1 ∧ (effectiveTemp probes e).1 ≤ 1360)

/-- Interpolation over strictly ascending points (R49, R62): the first factor at or below the first point, the last at or
above the last; between two neighbouring points the quotient rounded half away from zero is added to the lower point's
factor, and the result lies between the two factors. -/
def Obligations.InterpolationOverPoints : Prop :=
  ∀ (pts : List (Int × Int)) (x : Int), pts.Pairwise (fun p q => p.1 < q.1) →
    (∀ p, pts.head? = some p → x ≤ p.1 → interpolate pts x = p.2) ∧
    (∀ p, pts.getLast? = some p → p.1 ≤ x → interpolate pts x = p.2) ∧
    ∀ (i : Nat) (p q : Int × Int), pts[i]? = some p → pts[i + 1]? = some q → p.1 ≤ x → x < q.1 →
      interpolate pts x = p.2 + roundHalfAway ((x - p.1) * (q.2 - p.2)) (q.1 - p.1).toNat ∧
      min p.2 q.2 ≤ interpolate pts x ∧ interpolate pts x ≤ max p.2 q.2

/-- The segment of STEP mode (R50) stays within 1..8, stands where neither move acts any more, and does not move while T
lies within its band widened by the hysteresis. A lane's update on a site second (R45, R51, R52): T and the substituted
state by R46, the segment by R50 in STEP mode alone, the target from the table, and Ft_applied moved toward it by at
most RATE, or at once where the jump of that direction is on, without passing it. Set afresh (R55, R57): the segment without
hysteresis, the highest whose T_i is at or below T, or 1; the target from the table, and Ft_applied equal to it. -/
def Obligations.LaneTemperatureUpdate : Prop :=
  (∀ (set : CalSet) (t : Int) (x : Nat), 1 ≤ x → x ≤ 8 →
     let r := moveSegment set t x
     1 ≤ r ∧ r ≤ 8 ∧ (r = 8 ∨ t < pointTemp set (r + 1)) ∧ (r = 1 ∨ pointTemp set r - set.control.hysteresis ≤ t) ∧
     ((x = 8 ∨ t < pointTemp set (x + 1)) → (x = 1 ∨ pointTemp set x - set.control.hysteresis ≤ t) → r = x)) ∧
  (∀ (set : CalSet) (probes : Quad Probe) (e : LaneEntry) (x : LaneTemp),
     let r := updateLaneTemp set probes e x
     let c := set.control
     (r.temp, r.substituted) = effectiveTemp probes e ∧
     r.segment = (if c.mode = .step then moveSegment set r.temp x.segment else x.segment) ∧
     r.target = (if c.mode = .step then pointFactor set r.segment else (interpolate (tempPoints set) r.temp).toNat) ∧
     (r.target = x.applied → r.applied = x.applied) ∧
     (x.applied < r.target → r.applied = if c.jumpUp = true then r.target else min r.target (x.applied + c.rate)) ∧
     (r.target < x.applied → r.applied = if c.jumpDown = true then r.target else max r.target (x.applied - c.rate)) ∧
     min x.applied r.target ≤ r.applied ∧ r.applied ≤ max x.applied r.target) ∧
  ∀ (set : CalSet) (probes : Quad Probe) (e : LaneEntry),
    let r := freshLaneTemp set probes e
    (r.temp, r.substituted) = effectiveTemp probes e ∧ 1 ≤ r.segment ∧ r.segment ≤ 8 ∧
    (∀ i, r.segment < i → i ≤ 8 → r.temp < pointTemp set i) ∧ (r.segment = 1 ∨ pointTemp set r.segment ≤ r.temp) ∧
    r.target = (if set.control.mode = .step then pointFactor set r.segment
      else (interpolate (tempPoints set) r.temp).toNat) ∧
    r.applied = r.target

/-! ### Crossings -/

/-- PAIRING_DEADLINE of a hit with an own-lane candidate (R21, R22): it pairs with the candidate closest in hit time, of two
equally close the one received earlier; both leave the pool, and the two-sided crossing, timed midway, goes on. -/
def Obligations.PairingOwnLane : Prop :=
  ∀ (s : State) (l : Lane) (r : Row) (i : Nat) (h : PoolHit), Live s → PoolsKeyed s →
    (∀ k ∈ s.pool l r, elapsed s.now k.receipt < 2 ^ 31) →
    (s.pool l r)[i]? = some h → reached s.now h.deadline = true →
    let others := (s.pool l r).erase h
    let candidate (k : PoolHit) : Prop := k.channel.half = h.channel.half.opposite ∧ timeGap k.time h.time ≤ h.window
    (∃ k ∈ others, candidate k) →
    ∃ k ∈ others, candidate k ∧
      (∀ j ∈ others, candidate j → timeGap k.time h.time < timeGap j.time h.time ∨
        (timeGap k.time h.time = timeGap j.time h.time ∧ elapsed s.now j.receipt ≤ elapsed s.now k.receipt)) ∧
      exec (.pairingDeadline l r i) s = .next (noteEmptied (routeCrossing
        { lane := l, row := r
          time := if 0 ≤ timeDiff k.time h.time then h.time + BitVec.ofNat 32 (timeGap k.time h.time / 2)
            else k.time + BitVec.ofNat 32 (timeGap k.time h.time / 2)
          right := some (if h.channel.half = .right then h else k).wheel
          left := some (if h.channel.half = .right then k else h).wheel
          straddle := false, oneSided := false, channelHeld := false, test := decide (s.mode l = .test) }
        (s.withPool l r (others.erase k))))

/-- PAIRING_DEADLINE of a hit without an own-lane candidate (R23, R24, R25). Across a boundary with both lanes OPEN it
takes the closest straddle candidate, of two equally close the one received earlier: of the opposite half in the pool of
the same row of the lane beside (LEFT of lane n beside RIGHT of lane n + 1), within the deciding hit's Wp, and without an
own-lane candidate of its own; the STRADDLE crossing's lane follows the table of R24. Without
one it forms a ONE_SIDED crossing, which carries CHANNEL_HELD where the other half is HELD. -/
def Obligations.PairingStraddleOrOneSided : Prop :=
  (∀ (s : State) (l : Lane) (r : Row) (i : Nat) (h : PoolHit), Live s → PoolsKeyed s →
     (∀ m, ∀ k ∈ s.pool m r, elapsed s.now k.receipt < 2 ^ 31) →
     (s.pool l r)[i]? = some h → reached s.now h.deadline = true →
     let half := h.channel.half
     let beside (m : Lane) : Prop := (half = .left ∧ laneNumber m = laneNumber l + 1) ∨
       (half = .right ∧ laneNumber l = laneNumber m + 1)
     let rest := (s.pool l r).erase h
     let partner (m : Lane) (k : PoolHit) : Prop :=
       k ∈ s.pool m r ∧ k.channel.half = half.opposite ∧ timeGap k.time h.time ≤ h.window ∧
       ∀ z ∈ s.pool m r, z.channel.half = half → h.window < timeGap z.time k.time
     (∀ k ∈ rest, k.channel.half = half.opposite → h.window < timeGap k.time h.time) →
     ((∀ m, beside m → s.mode l = .opened → s.mode m = .opened → ∀ k, ¬ partner m k) →
       exec (.pairingDeadline l r i) s = .next (noteEmptied (routeCrossing
         { lane := l, row := r, time := h.time
           right := if half = .right then some h.wheel else none, left := if half = .left then some h.wheel else none
           straddle := false, oneSided := true
           channelHeld := decide ((s.channel ⟨l, r, half.opposite⟩).state = .held), test := decide (s.mode l = .test) }
         (s.withPool l r rest)))) ∧
     ∀ m, beside m → s.mode l = .opened → s.mode m = .opened → (∃ k, partner m k) →
       ∃ k x, partner m k ∧
         (∀ j, partner m j → timeGap k.time h.time < timeGap j.time h.time ∨
           (timeGap k.time h.time = timeGap j.time h.time ∧ elapsed s.now j.receipt ≤ elapsed s.now k.receipt)) ∧
         x.row = r ∧ x.straddle = true ∧ x.oneSided = false ∧ x.channelHeld = false ∧ x.test = false ∧
         x.time = middleTime h.time k.time ∧
         x.right = some (if half = .left then h else k).wheel ∧ x.left = some (if half = .left then k else h).wheel ∧
         x.lane = straddleLane s (if half = .left then l else m) (if half = .left then m else l) ∧
         exec (.pairingDeadline l r i) s =
           .next (noteEmptied (routeCrossing x ((s.withPool l r rest).withPool m r ((s.pool m r).erase k))))) ∧
  (∀ (s : State) (n m : Lane),
     ((s.va.occupied.get n).isSome = true → s.va.occupied.get m = none → straddleLane s n m = n) ∧
     (s.va.occupied.get n = none → (s.va.occupied.get m).isSome = true → straddleLane s n m = m) ∧
     (∀ t u, s.va.occupied.get n = some t → s.va.occupied.get m = some u →
       straddleLane s n m = if (u - t).msb = true then m else n) ∧
     (s.va.occupied.get n = none → s.va.occupied.get m = none → straddleLane s n m = n))

/-- A row-A crossing joins its lane's queue behind every entry of no later time (R29); a full queue first drops its head
as a row-A orphan. ROW_A_EXPIRY (R30, R35): every entry whose age, modulo 2^32, exceeds Δt_max is dropped and counted as
a row-A orphan; the others keep their order. Nothing else changes. -/
def Obligations.RowAQueueOrderAndExpiry : Prop :=
  (∀ (x : Crossing) (s : State), x.row = .a →
     let q := s.queue x.lane
     ∃ before after, (if 16 ≤ q.length then q.tail else q) = before ++ after ∧
       (∀ y ∈ before, 0 ≤ timeDiff x.time y.time) ∧ (∀ y, after.head? = some y → timeDiff x.time y.time < 0) ∧
       routeCrossing x s =
         (if 16 ≤ q.length then (s.withQueue x.lane (before ++ x :: after)).countOrphanA x.lane
          else s.withQueue x.lane (before ++ x :: after))) ∧
  (∀ (s : State) (l : Lane), Live s →
     let old (x : Crossing) : Bool := decide ((s.xf.windows.get l).dtMax < (s.now - x.time).toNat)
     exec (.rowAExpiry l) s = .next { s with xf := { s.xf with
       queues := s.xf.queues.set l ((s.queue l).filter fun x => !old x)
       orphanA := s.xf.orphanA.set l (s.xf.orphanA.get l + BitVec.ofNat 32 ((s.queue l).countP old)) } })

/-- The match of a row-B crossing against its lane's queue (R31). The entries that expire at this tick leave it first, as
row-A orphans, whichever event is taken first (R30); then the heads with Δt above Δt_max are dropped and counted as row-A
orphans; then an empty queue or a head with Δt below Δt_min makes the crossing a row-B orphan, the head staying; otherwise
the head leaves and forms an axle with it. -/
def Obligations.RowBCrossingMatches : Prop :=
  ∀ (b : Crossing) (s : State) (dropped rest : List Crossing), b.row = .b →
    let w := s.xf.windows.get b.lane
    let old (x : Crossing) : Bool := decide (w.dtMax < (s.now - x.time).toNat)
    (s.queue b.lane).filter (fun x => !old x) = dropped ++ rest →
    (∀ a ∈ dropped, (w.dtMax : Int) < timeDiff b.time a.time) →
    (∀ a, rest.head? = some a → timeDiff b.time a.time ≤ w.dtMax) →
    let u := { s with xf := { s.xf with
      orphanA := s.xf.orphanA.set b.lane (s.xf.orphanA.get b.lane +
        BitVec.ofNat 32 ((s.queue b.lane).countP old + dropped.length)) } }
    (rest = [] → routeCrossing b s = (u.withQueue b.lane []).countOrphanB b.lane) ∧
    ∀ a tail, rest = a :: tail →
      (timeDiff b.time a.time < w.dtMin → routeCrossing b s = (u.withQueue b.lane rest).countOrphanB b.lane) ∧
      ((w.dtMin : Int) ≤ timeDiff b.time a.time →
        routeCrossing b s = handOnAxle (formAxle s a b (timeDiff b.time a.time).toNat) (u.withQueue b.lane tail))

/-- An axle's speed and time (R32): half of Δt is added to D × 16,384 and the sum divided by Δt; the speed lies within the
v_min..v_max of the window that Δt lies in; the time is the row-A crossing's. Its wheels and flags (R33): each side has the
wheels that its two crossings carry there, row A first; a side with one row gives SINGLE_ROW, a side with none ONE_SIDED;
STRADDLE, CHANNEL_HELD and TEST come from either crossing, CHANNEL_SUSPECT from any row wheel, and no other flag is set. -/
def Obligations.AxleFormation : Prop :=
  (∀ (s : State) (a b : Crossing) (dt : Nat),
    let d := (s.set.lanes.get b.lane).spacing
    let w := transitWindow s.set.site d
    0 < dt → 0 < s.set.site.vMin → 0 < s.set.site.vMax → w.dtMin ≤ dt → dt ≤ w.dtMax →
    let f := formAxle s a b dt
    f.speed = (2 * (d * 16384) + dt) / (2 * dt) ∧ s.set.site.vMin ≤ f.speed ∧ f.speed ≤ s.set.site.vMax ∧
    f.time = a.time) ∧
  ∀ (s : State) (a b : Crossing) (dt : Nat),
    let f := formAxle s a b dt
    f.rightRows = a.right.toList ++ b.right.toList ∧ f.leftRows = a.left.toList ++ b.left.toList ∧ f.lane = b.lane ∧
    f.flags.getLsbD 0 = (f.rightRows.isEmpty || f.leftRows.isEmpty) ∧
    f.flags.getLsbD 1 = (a.straddle || b.straddle) ∧
    f.flags.getLsbD 2 = decide (f.rightRows.length = 1 ∨ f.leftRows.length = 1) ∧
    f.flags.getLsbD 3 = (a.channelHeld || b.channelHeld) ∧
    f.flags.getLsbD 4 = ((f.rightRows ++ f.leftRows).any fun w => w.suspect) ∧
    f.flags.getLsbD 5 = (a.test || b.test) ∧ f.flags.toNat < 64

/-! ### Loads -/

/-- A row wheel load (R64, R65): four stages, each adding half the divisor to the product and flooring the quotient; the
last is held at 32,767, and held only where it is greater. Wheel and axle loads (R67, R68): two row loads are averaged,
rounded half up, one stands as it is, none is absent; an axle's load is the sum of its wheels, or twice the one present,
and within 65,534. -/
def Obligations.AxleLoadArithmetic : Prop :=
  (∀ (set : CalSet) (v ft fs : Nat) (w : Wheel),
     let p := (w.area * v + 32768) / 65536
     let w0 := (p * (set.channels.chan w.channel).gain + 2048) / 4096
     let w1 := (w0 * ft + 8192) / 16384
     let w2 := (w1 * fs + 8192) / 16384
     (w2 ≤ 32767 → rowLoad set v ft fs w = (w2, false)) ∧ (32767 < w2 → rowLoad set v ft fs w = (32767, true))) ∧
  ((∀ x y : Nat, wheelLoad [x, y] = some ((x + y + 1) / 2)) ∧ (∀ x, wheelLoad [x] = some x) ∧ wheelLoad [] = none ∧
   (∀ r l, axleLoad (some r) (some l) = r + l) ∧ (∀ r, axleLoad (some r) none = 2 * r) ∧
   (∀ l, axleLoad none (some l) = 2 * l) ∧
   ∀ rs ls : List Nat, (∀ x ∈ rs, x ≤ 32767) → (∀ x ∈ ls, x ≤ 32767) →
     axleLoad (wheelLoad rs) (wheelLoad ls) ≤ 65534 ∧ ∀ x, wheelLoad rs = some x → x ≤ 32767)

/-- The Load Computer's axle (R59, R62, R63, R69, R70, R71): the loads of its row wheels under the lane's Ft_applied and the
one Fs of its speed, interpolated over the SPEED points; SPEED_OUT_OF_BAND, TEMP_SUBSTITUTED, LOAD_SAT and AREA_SAT join the
flags it came with. An axle formed is computed and handed to its lane's context in one event (R34, R71). -/
def Obligations.LoadComputation : Prop :=
  ∀ (s : State) (f : FormedAxle), f.flags.toNat < 64 →
    let a := computeLoads s f
    let points : List (Int × Int) := s.set.speed.toList.map fun p => ((p.speed : Int), (p.factor : Int))
    let one := rowLoad s.set f.speed (s.ptu.lanes.get f.lane).applied (interpolate points f.speed).toNat
    handOnAxle f s = axleArrives f.lane a s ∧ a.spacing = none ∧
    a.time = f.time ∧ a.speed = f.speed ∧ a.rightRows = f.rightRows ∧ a.leftRows = f.leftRows ∧
    a.right = wheelLoad (f.rightRows.map fun w => (one w).1) ∧ a.left = wheelLoad (f.leftRows.map fun w => (one w).1) ∧
    a.load = axleLoad a.right a.left ∧
    (∀ i, i < 6 → a.flags.getLsbD i = f.flags.getLsbD i) ∧
    a.flags.getLsbD 6 = decide (f.speed < (s.set.speed.get 0).speed ∨ (s.set.speed.get 7).speed < f.speed) ∧
    a.flags.getLsbD 7 = (s.ptu.lanes.get f.lane).substituted ∧
    a.flags.getLsbD 8 = ((f.rightRows ++ f.leftRows).any fun w => (one w).2) ∧
    a.flags.getLsbD 9 = ((f.rightRows ++ f.leftRows).any fun w => w.areaSat) ∧
    ∀ i, 10 ≤ i → a.flags.getLsbD i = false

/-! ### Vehicles -/

/-- An axle that opens a vehicle or joins one (R77, R78, R81, R82). In an EMPTY context it opens a vehicle, OPEN with
presence-seen where the lane is occupied, else CLOSING with its close delay running; T and Ft are copied. In a context
without axles it is the first, without spacing. In a context with axles and room, at a later time and within the split
distance, it is appended with its spacing: in OPEN an occupied lane sets presence-seen, in CLOSING without a successor the
close delay starts again. A vehicle that opens on the test lane sets the test's vehicle-opened mark (R163). -/
def Obligations.AxleOpensOrJoins : Prop :=
  (∀ (s : State) (l : Lane),
     (∀ x, s.ltg.test = some x → x.lane = l →
       markVehicleOpened l s = { s with ltg := { s.ltg with test := some { x with vehicleOpened := true } } }) ∧
     (s.testLane ≠ some l → markVehicleOpened l s = s)) ∧
  ∀ (s : State) (l : Lane) (a : Axle),
    let c := s.context l
    let delay := some (s.now + BitVec.ofNat 32 ((2 * (s.set.site.closeDelay * 16384) + 1000) / 2000))
    (c.state = .empty → axleArrives l a s = markVehicleOpened l (s.withContext l
      { state := if s.isOccupied l = true then .opened else .closing, openTick := s.now, openTime := s.siteClock,
        presenceSeen := s.isOccupied l, successor := none,
        closeExpiry := if s.isOccupied l = true then none else delay,
        axles := [{ a with spacing := none }],
        firstTemp := some ((s.ptu.lanes.get l).temp, (s.ptu.lanes.get l).applied), channelHeld := s.laneHeld l,
        calChanged := false, continuation := false })) ∧
    (c.state ≠ .empty → c.axles = [] → axleArrives l a s = s.withContext l
      { c with
        axles := [{ a with spacing := none }]
        firstTemp := some ((s.ptu.lanes.get l).temp, (s.ptu.lanes.get l).applied)
        presenceSeen := c.presenceSeen || (decide (c.state = .opened) && s.isOccupied l)
        closeExpiry := if c.state = .closing ∧ c.successor = none then delay else c.closeExpiry }) ∧
    ∀ last, c.state ≠ .empty → c.axles.getLast? = some last → 0 < timeDiff a.time last.time →
      let spacing :=
        (2 * ((last.speed + a.speed + 1) / 2 * (a.time - last.time).toNat) + 163840) / 327680
      spacing ≤ s.set.site.splitDistance → c.axles.length < 16 →
      axleArrives l a s = s.withContext l
        { c with
          axles := c.axles ++ [{ a with spacing := some spacing }]
          presenceSeen := c.presenceSeen || (decide (c.state = .opened) && s.isOccupied l)
          closeExpiry := if c.state = .closing ∧ c.successor = none then delay else c.closeExpiry }

/-- An axle that is out of order or beyond the split distance closes the vehicle and opens another (R79); one within it that
would be the seventeenth closes it TRUNCATED and opens a CONTINUATION (R80). A pending successor gives the new vehicle its
open time and presence-seen. -/
def Obligations.SplitAndTruncation : Prop :=
  ∀ (s : State) (l : Lane) (a last : Axle),
    let c := s.context l
    let reopen (cause : Flags) (continuation : Bool) : State :=
      let u := closeVehicle l cause s
      let occ := u.isOccupied l
      markVehicleOpened l (u.withContext l
        { state := if occ = true then .opened else .closing
          openTick := (match c.successor with | some x => x.1 | none => u.now)
          openTime := (match c.successor with | some x => x.2 | none => u.siteClock)
          presenceSeen := occ || c.successor.isSome, successor := none
          closeExpiry := if occ = true then none else some (later u.now (closeDelayTicks u))
          axles := [{ a with spacing := none }]
          firstTemp := some ((u.ptu.lanes.get l).temp, (u.ptu.lanes.get l).applied), channelHeld := u.laneHeld l
          calChanged := false, continuation := continuation })
    c.state ≠ .empty → c.axles.getLast? = some last →
    (timeDiff a.time last.time ≤ 0 ∨ s.set.site.splitDistance < axleSpacing last a →
      axleArrives l a s = reopen 0 false) ∧
    (0 < timeDiff a.time last.time → axleSpacing last a ≤ s.set.site.splitDistance → 16 ≤ c.axles.length →
      axleArrives l a s = reopen Flag.truncated true)

/-- PRESENCE_OCCUPIED on an OPEN lane that is not occupied and PRESENCE_RELEASED on an occupied lane that is not CLOSED
(R73, R83): the occupancy begins or ends at this tick, and the context acts by its state. On a CLOSED lane presence is
ignored (R74). On the test lane PRESENCE_OCCUPIED first aborts the test (R74, R167), its hits, crossings and vehicle
discarded without count or record, ABORTED recorded with MAINT at all ports, the lane OPEN; the occupancy then opens a
vehicle. The command's own moving of the input is the model's choice (notes/assumptions/9.md). What a channel holds of a hit
or a hold it has left is the model's choice (notes/assumptions/22.md). -/
def Obligations.PresenceEventsAct : Prop :=
  (∀ (s : State) (l : Lane), Live s → s.clock.started = true → s.mode l = .opened → s.testLane ≠ some l →
     s.isOccupied l = false →
     let c := s.context l
     let high := decide ((s.set.lanes.get l).presencePolarity = .activeHigh)
     let u := (s.withPresence l high).withOccupied l (some s.now)
     (c.state = .empty → exec (.presenceOccupied l) s = .next (u.withContext l
       { emptyContext with
         state := .opened, openTick := s.now, openTime := s.siteClock, presenceSeen := true,
         channelHeld := s.laneHeld l })) ∧
     (c.state = .opened → exec (.presenceOccupied l) s = .next (u.withContext l { c with presenceSeen := true })) ∧
     (c.state = .closing → c.presenceSeen = false → exec (.presenceOccupied l) s = .next (u.withContext l
       { c with state := .opened, presenceSeen := true, closeExpiry := none })) ∧
     (c.state = .closing → c.presenceSeen = true → c.successor = none →
       exec (.presenceOccupied l) s = .next (u.withContext l { c with successor := some (s.now, s.siteClock) })) ∧
     (c.state = .closing → c.presenceSeen = true → c.successor ≠ none → exec (.presenceOccupied l) s = .next u)) ∧
  (∀ (s : State) (l : Lane), Live s → s.clock.started = true →
     let c := s.context l
     let u := s.withPresence l (decide ((s.set.lanes.get l).presencePolarity ≠ .activeHigh))
     (s.mode l ≠ .closed → s.isOccupied l = true → c.state = .opened →
       exec (.presenceReleased l) s = .next ((u.withOccupied l none).withContext l
         { c with
           state := .closing
           closeExpiry := some (s.now + BitVec.ofNat 32 ((2 * (s.set.site.closeDelay * 16384) + 1000) / 2000)) })) ∧
     (s.mode l ≠ .closed → s.isOccupied l = true → c.state ≠ .opened →
       exec (.presenceReleased l) s = .next (u.withOccupied l none)) ∧
     (s.mode l = .closed → exec (.presenceReleased l) s = .next u ∧
       exec (.presenceOccupied l) s =
         .next (s.withPresence l (decide ((s.set.lanes.get l).presencePolarity = .activeHigh))))) ∧
  ∀ (s : State) (l : Lane) (x : TestContext), Live s → s.clock.started = true → s.mode l = .test →
    s.ltg.test = some x → x.lane = l → s.isOccupied l = false →
    ∃ t, exec (.presenceOccupied l) s = .next t ∧
      t.ltg = ⟨s.ltg.modes.set l .opened, none, some ⟨l, x.pattern, .aborted, s.siteClock, none, none⟩⟩ ∧
      (∀ c, t.channel c = if c.lane = l ∧ (s.channel c).state = .inHit
        then { (s.channel c).clearHit with state := .idle } else s.channel c) ∧
      t.sfe.noise = s.sfe.noise ∧ t.sfe.heldEntries = s.sfe.heldEntries ∧
      t.xf = { s.xf with pools := s.xf.pools.set l ⟨[], []⟩, queues := s.xf.queues.set l [] } ∧
      t.va = { s.va with
        occupied := s.va.occupied.set l (some s.now)
        contexts := s.va.contexts.set l
          { emptyContext with
            state := .opened, openTick := s.now, openTime := s.siteClock, presenceSeen := true,
            channelHeld := s.laneHeld l } } ∧
      t.ports = (raised Notice.maint s).ports ∧ t.rr = s.rr ∧ t.cc = s.cc ∧ t.cle = s.cle ∧ t.ptu = s.ptu ∧
      t.clock = s.clock ∧ t.pins.probes = s.pins.probes

/-- CLOSE_DELAY_EXPIRY of a CLOSING context and DURATION_EXPIRY of a context open for the max duration (R84, R85): the
vehicle closes, the second with TIMEOUT, and a pending successor opens at its own time; DURATION_EXPIRY closes the
successor at once where its own limit has passed. -/
def Obligations.VehicleTimersClose : Prop :=
  ∀ (s : State) (l : Lane), Live s →
    let c := s.context l
    let follow (u : State) : State :=
      match c.successor with
      | none => u
      | some (tick, stamp) =>
        let occ := u.isOccupied l
        markVehicleOpened l (u.withContext l
          { emptyContext with
            state := if occ = true then .opened else .closing, openTick := tick, openTime := stamp,
            presenceSeen := true, closeExpiry := if occ = true then none else some (later u.now (closeDelayTicks u)),
            channelHeld := u.laneHeld l })
    (∀ t, c.state = .closing → c.closeExpiry = some t → reached s.now t = true →
      exec (.closeDelayExpiry l) s = .next (noteEmptied (follow (closeVehicle l 0 s)))) ∧
    (c.state ≠ .empty → s.set.site.maxDuration * 16384 ≤ (s.now - c.openTick).toNat →
      let u := follow (closeVehicle l Flag.timeout s)
      exec (.durationExpiry l) s = .next (noteEmptied
        (if (u.context l).state ≠ .empty ∧ u.set.site.maxDuration * 16384 ≤ (u.now - (u.context l).openTick).toNat
         then closeVehicle l Flag.timeout u else u)))

/-- A closure (R86, R87, R90, R109, R111): without axles the vehicle is a ghost, counted and gone; with axles its record is
committed, an ENFORCEABLE one starts the trigger, and the context is EMPTY with all its parts cleared (R75). On the test lane
that closure then completes the test (R164, R165), with the ratios that the vehicle's axles give and its record's number. A
lane's trigger (R110, R111, R112): the commit of an ENFORCEABLE record starts or extends the pulse to one width from this
tick and counts; TRIGGER_PULSE_END at the pulse end time makes it IDLE; the output is at the active level of its polarity in
PULSING, at the other in IDLE, and low before the active set is loaded (R115; an unpowered device stands for that, the
model's choice, notes/assumptions/18.md). -/
def Obligations.VehicleClosesAndTriggers : Prop :=
  (∀ (s : State) (l : Lane) (cause : Flags),
     let c := s.context l
     (c.axles = [] → closeVehicle l cause s = (s.withContext l emptyContext).countGhost l) ∧
     (c.axles ≠ [] → s.testLane ≠ some l →
       let x := vehicleRecord s l c cause
       let u := commitRecord x s
       closeVehicle l cause s =
         (if x.alert = .enforceable then
           ((u.withTrigger l (some (s.now + BitVec.ofNat 32 ((2 * (s.set.site.triggerWidth * 16384) + 1000) / 2000)))
             ).countTrigger l)
          else u).withContext l emptyContext) ∧
     (∀ y, c.axles ≠ [] → s.ltg.test = some y → y.lane = l →
       let x := vehicleRecord s l c cause
       let u := commitRecord x s
       closeVehicle l cause s = completeTest y (testRatio y c.axles) (some s.rr.next)
         ((if x.alert = .enforceable then
           ((u.withTrigger l (some (s.now + BitVec.ofNat 32 ((2 * (s.set.site.triggerWidth * 16384) + 1000) / 2000)))
             ).countTrigger l)
          else u).withContext l emptyContext))) ∧
  ((∀ (s : State) (l : Lane), startTrigger l s = { s with cle :=
     ⟨s.cle.triggers.set l
         (some (s.now + BitVec.ofNat 32 ((2 * (s.set.site.triggerWidth * 16384) + 1000) / 2000))),
       s.cle.counts.set l (s.cle.counts.get l + 1)⟩ }) ∧
   (∀ (s : State) (l : Lane) (t : Time), Live s → s.cle.triggers.get l = some t → reached s.now t = true →
     exec (.triggerPulseEnd l) s = .next { s with cle := { s.cle with triggers := s.cle.triggers.set l none } }) ∧
   ∀ (s : State) (l : Lane),
     let high := decide ((s.set.lanes.get l).triggerPolarity = .activeHigh)
     (∀ t, s.powered = true → s.cle.triggers.get l = some t → triggerOutput s l = high) ∧
     (s.powered = true → s.cle.triggers.get l = none → triggerOutput s l = !high) ∧
     (s.powered = false → triggerOutput s l = false))

/-- The record of a closing vehicle (R72, R88, R89, R90, R109): its parts, its axle entries, its flags bit by bit, and the
evaluation of its axles. With at most 16 axles of at most 65,534 kg the gross is the exact sum. -/
def Obligations.RecordOfVehicle : Prop :=
  ∀ (s : State) (l : Lane) (c : Context) (cause : Flags), c.axles ≠ [] →
    let x := vehicleRecord s l c cause
    let speeds := c.axles.map fun a => a.speed
    let e := evaluate s.set c.axles x.gross x.flags
    let mark (i : Nat) : Bool := cause.getLsbD i || c.axles.any fun a => a.flags.getLsbD i
    x.lane = l ∧ x.openTime = c.openTime ∧ x.closeTime = s.siteClock ∧ x.axleCount = c.axles.length ∧
    x.speed = (2 * speeds.sum + c.axles.length) / (2 * c.axles.length) ∧
    (∀ lo hi, (∀ v ∈ speeds, lo ≤ v ∧ v ≤ hi) → lo ≤ x.speed ∧ x.speed ≤ hi) ∧
    (c.axles.length ≤ 16 → (∀ a ∈ c.axles, a.load ≤ 65534) → x.gross = (c.axles.map fun a => a.load).sum) ∧
    x.revision = s.cc.revision ∧ x.code = e.code ∧ x.profile = e.profile ∧ x.groupCount = e.groupCount ∧
    x.alert = e.alert ∧ x.worst = e.worst ∧
    x.axles = (c.axles.map fun a => ⟨a.time, a.speed, a.spacing, a.right, a.left, a.load, a.flags⟩) ∧
    (∀ t ft, c.firstTemp = some (t, ft) → x.firstTemp = t ∧ x.firstFt = ft) ∧
    (∀ i ∈ [0, 1, 2, 4, 5, 6, 7, 9, 15, 16, 17], x.flags.getLsbD i = mark i) ∧
    x.flags.getLsbD 3 = (mark 3 || c.channelHeld) ∧
    x.flags.getLsbD 8 = (mark 8 || decide (1048575 < (c.axles.map fun a => a.load).sum)) ∧
    (x.flags.getLsbD 10 = true ↔ mark 10 = true ∨
      ∃ i ∈ speeds, ∃ j ∈ speeds, x.speed * s.set.site.speedVariation < (i - j) * 1000) ∧
    x.flags.getLsbD 11 = (mark 11 || !c.presenceSeen) ∧
    x.flags.getLsbD 12 = (mark 12 || decide (s.cc.revision = 0)) ∧
    x.flags.getLsbD 13 = (mark 13 || c.calChanged) ∧ x.flags.getLsbD 14 = (mark 14 || c.continuation)

/-! ### Evaluation -/

/-- The class walk (R99, R100, R101): the first enabled entry all of whose rules are met gives code and profile; where none
is, both are 0. -/
def Obligations.ClassWalk : Prop :=
  ∀ (set : CalSet) (n : Nat) (spacings : List Nat) (gross : Nat),
    let met (e : ClassEntry) : Prop :=
      e.enabled = true ∧ e.countMin ≤ n ∧ n ≤ e.countMax ∧
      (∀ (j : Nat) (lo hi : Nat), e.rules.toList[j]? = some (some (lo, hi)) →
        ∃ x, spacings[j]? = some x ∧ lo ≤ x ∧ x ≤ hi) ∧
      (∀ g, e.grossMin = some g → g ≤ gross) ∧ (∀ g, e.grossMax = some g → gross ≤ g)
    (∀ (i : Nat) (e : ClassEntry), set.classes.toList[i]? = some e → met e →
      (∀ (j : Nat) (d : ClassEntry), j < i → set.classes.toList[j]? = some d → ¬ met d) →
      matchClass set n spacings gross = (e.code, e.profile)) ∧
    ((∀ e ∈ set.classes.toList, ¬ met e) → matchClass set n spacings gross = (0, 0))

/-- The axle groups (R102, R103): each group starts where the one before it ends; the first axle of a later group has a
spacing above the group distance, and every other axle of a group a spacing within it; a group's load is the sum of its
axles' loads; its kind follows its size. -/
def Obligations.AxleGroupsAreRuns : Prop :=
  ∀ (d : Nat) (axles : List Axle), (∀ (i : Nat) (a : Axle), axles[i]? = some a → (a.spacing = none ↔ i = 0)) →
    let gs := axleGroups d axles
    (∀ g, gs.head? = some g → g.start = 1) ∧
    (∀ (i : Nat) (g h : Group), gs[i]? = some g → gs[i + 1]? = some h → h.start = g.start + g.size) ∧
    (∀ g ∈ gs, 1 ≤ g.size ∧ g.load = (((axles.drop (g.start - 1)).take g.size).map fun a => a.load).sum ∧
      (∀ a x, axles[g.start - 1]? = some a → a.spacing = some x → d < x) ∧
      (∀ (j : Nat) (a : Axle) (x : Nat), g.start ≤ j → j + 1 < g.start + g.size → axles[j]? = some a →
        a.spacing = some x → x ≤ d) ∧
      groupKind g = if g.size = 1 then .single else if g.size = 2 then .tandem else .tridem) ∧
    (gs.map fun g => g.size).sum = axles.length

/-- The evaluation of a vehicle (R97): class and profile are those of the class walk over its axle count, spacings and gross.
Checks, worst check and alert (R105 to R108): a check is exceeded when load × 1,000 is greater than limit × (1,000 +
tolerance); the worst is the exceeded check of the largest excess, the first of several; without one the alert is NONE,
else ENFORCEABLE exactly where the vehicle carries no flag. -/
def Obligations.ChecksDecideAlert : Prop :=
  ∀ (set : CalSet) (axles : List Axle) (gross : Nat) (flags : Flags),
    let e := evaluate set axles gross flags
    let p := set.profiles.toList.getD e.profile defaultProfile
    let groupCheck (g : Group) : Check :=
      if g.size ≤ 1 then ⟨.single, some g.start, g.load, p.single⟩
      else if g.size = 2 then ⟨.tandem, some g.start, g.load, p.tandem⟩
      else ⟨.tridem, some g.start, g.load, p.tridem⟩
    let checks := (axleGroups set.site.groupDistance axles).map groupCheck ++ [⟨.gross, none, gross, p.gross⟩]
    let beyond (c : Check) : Prop := c.limit ≠ 0 ∧ c.limit * (1000 + set.site.tolerance) < c.load * 1000
    let excess (c : Check) : Nat := min ((c.load - c.limit) * 1000 / c.limit) 65535
    (e.code, e.profile) = matchClass set axles.length (axles.filterMap fun a => a.spacing) gross ∧
    e.groupCount = (axleGroups set.site.groupDistance axles).length ∧
    ((∀ c ∈ checks, ¬ beyond c) → e.alert = .none ∧ e.worst = none) ∧
    ((∃ c ∈ checks, beyond c) → e.alert = (if flags = 0 then .enforceable else .advisory)) ∧
    ∀ (i : Nat) (c : Check), checks[i]? = some c → beyond c →
      (∀ (j : Nat) (k : Check), checks[j]? = some k → beyond k →
        excess k < excess c ∨ (excess k = excess c ∧ i ≤ j)) →
      e.worst = some ⟨excess c, c.kind, c.index⟩

/-! ### The record ring -/

/-- The commit of a record (R119 to R123, R178): a full ring loses its oldest record, moving a cursor on it with a record
loss; the record takes the next sequence number; each port that is not DISABLED takes NEW_RECORD by its filter and an alert
entry by its subscription, a full queue dropping its head with an alert loss; LOST tells of either loss. In PULSE mode a set
that was empty and is not starts a pulse, and the reminder where it is on; the reminder expiry stays while the set was not
empty, and is not set while it stays empty (R185). Nothing else changes. -/
def Obligations.CommitOfRecord : Prop :=
  ∀ (x : Record) (s : State),
    let full : Prop := 256 ≤ s.rr.ring.length
    let oldest : Seq := s.rr.next - BitVec.ofNat 32 s.rr.ring.length
    let t := commitRecord x s
    t.rr.ring = (if 256 ≤ s.rr.ring.length then s.rr.ring.tail else s.rr.ring) ++ [{ x with seq := s.rr.next }] ∧
    t.rr.next = s.rr.next + 1 ∧ t.rr.committed = s.rr.committed.set x.lane (s.rr.committed.get x.lane + 1) ∧
    t = { s with rr := t.rr, ports := t.ports } ∧
    (∀ p, (s.port p).role = .disabled → t.ringPort p = s.ringPort p ∧ t.port p = s.port p) ∧
    ∀ p, (s.port p).role ≠ .disabled →
      let q := s.ringPort p
      let overtaken : Bool := decide (full ∧ q.cursor = oldest)
      let passes : Bool := q.laneMask.getLsbD (laneNumber x.lane - 1) && q.classMask.getLsbD x.code
      let admitted : Bool := match q.subscription with
        | .off => false
        | .enforceableOnly => decide (x.alert = .enforceable)
        | .all => decide (x.alert ≠ .none)
      let drops : Bool := admitted && decide (16 ≤ q.alerts.length)
      let flags : NoticeSet := (s.port p).flags ||| (if overtaken || drops then Notice.lost else 0) |||
        (if passes then Notice.newRecord else 0) ||| (if admitted then Notice.alert else 0)
      let slept : Prop := (s.port p).lineMode = .pulse ∧ (s.port p).flags &&& ~~~(s.port p).mask = 0
      let wakes : Prop := slept ∧ flags &&& ~~~(s.port p).mask ≠ 0
      t.ringPort p = { q with
        cursor := if overtaken then oldest + 1 else q.cursor
        recordLoss := if overtaken then q.recordLoss + 1 else q.recordLoss
        alerts := if admitted then
            (if drops then q.alerts.tail else q.alerts) ++ [⟨s.rr.next, x.lane, x.code, x.alert, x.worst, x.closeTime⟩]
          else q.alerts
        alertLoss := if drops then q.alertLoss + 1 else q.alertLoss } ∧
      t.port p = { s.port p with
        flags := flags, pulse := (t.port p).pulse, reminderExpiry := (t.port p).reminderExpiry } ∧
      (wakes → (t.port p).pulse = some (s.now + 16#32)) ∧ (¬ wakes → (t.port p).pulse = (s.port p).pulse) ∧
      (¬ slept → (t.port p).reminderExpiry = (s.port p).reminderExpiry) ∧
      (wakes → (s.port p).reminder = true → (t.port p).reminderExpiry = some (s.now + 8192#32)) ∧
      (slept → ¬ (wakes ∧ (s.port p).reminder = true) →
        (t.port p).reminderExpiry = none ∨ (t.port p).reminderExpiry = (s.port p).reminderExpiry)

/-- The ring's unbroken run, and every cursor between the oldest held and the next number, in every state that a step gives
(R117, R120). -/
def Obligations.RingKeepsItsRun : Prop := ∀ s t : State, RingInv s → step s = .next t → RingInv t

/-- FETCH (R127): the records from the cursor that the filter fails are skipped; with none left the answer is EMPTY and the
cursor stands at the next number; else the record is returned in the port's format and the cursor is the number after it.
Either answer carries the cursor and the number of records from it to the next number. -/
def Obligations.FetchWalksTheRing : Prop :=
  ∀ (s : State) (p : PortId) (tag : Byte) (skipped rest : List Record), Taking p s → RingInv s →
    let q := s.ringPort p
    let passes (y : Record) : Bool := q.laneMask.getLsbD (laneNumber y.lane - 1) && q.classMask.getLsbD y.code
    s.rr.ring.drop (s.rr.ring.length - (s.rr.next - q.cursor).toNat) = skipped ++ rest →
    (∀ y ∈ skipped, passes y = false) →
    (rest = [] → exec (.fetch p tag) s = .next (answered p 0x12 tag
      ⟨.empty, bytesLE 4 s.rr.next.toNat ++ bytesLE 2 0⟩ (s.withRingPort p { q with cursor := s.rr.next }))) ∧
    ∀ y tail, rest = y :: tail → passes y = true → exec (.fetch p tag) s = .next (answered p 0x12 tag
      ⟨.ok, bytesLE 4 (y.seq + 1).toNat ++ bytesLE 2 tail.length ++ recordBytes q.format y 1⟩
      (s.withRingPort p { q with cursor := y.seq + 1 }))

/-- The layout of a record in both formats, of an axle entry and of an alert entry (11.2, 11.3, R118, R122, R126, R189): each
field at its offset and of its width, least significant byte first, an absent one as 11.2 gives. -/
def Obligations.RecordsAreCoded : Prop :=
  (∀ (f : Format) (x : Record) (first : Nat),
    x.openTime.tick < 16384 → x.closeTime.tick < 16384 → x.axleCount ≤ 16 → x.speed ≤ 60000 → x.gross ≤ 1048575 →
    x.code ≤ 31 → x.profile ≤ 15 → -640 ≤ x.firstTemp → x.firstTemp ≤ 1360 → x.firstFt ≤ 32767 → x.groupCount ≤ 16 →
    (∀ w, x.worst = some w → w.excess ≤ 65535 ∧ ∀ i, w.index = some i → i ≤ 16) →
    let b := recordBytes f x first
    let n := numberAt b
    n 0 4 = x.seq.toNat ∧ n 4 1 = laneNumber x.lane ∧ n 5 4 = x.openTime.seconds.toNat ∧ n 9 2 = x.openTime.tick ∧
    n 11 4 = x.closeTime.seconds.toNat ∧ n 15 2 = x.closeTime.tick ∧ n 17 1 = x.axleCount ∧ n 18 2 = x.speed ∧
    n 20 4 = x.gross ∧ n 24 1 = x.code ∧ n 25 1 = x.profile ∧
    n 26 1 = (match x.alert with | .none => 0 | .advisory => 1 | .enforceable => 2) ∧
    n 27 2 = (match x.worst with | some w => w.excess | none => 0) ∧
    n 29 1 = (match x.worst with
      | some w => (match w.kind with | .single => 0 | .tandem => 1 | .tridem => 2 | .gross => 3) | none => 255) ∧
    n 30 1 = ((x.worst.bind fun w => w.index).getD 255) ∧
    (n 31 2 : Int) = (if x.firstTemp < 0 then x.firstTemp + 65536 else x.firstTemp) ∧ n 33 2 = x.firstFt ∧
    n 35 4 = x.revision.toNat ∧ n 39 4 = x.flags.toNat ∧
    (f = .summary → b.length = 44 ∧ n 43 1 = x.groupCount) ∧
    (f = .full → 1 ≤ first → first ≤ 16 →
      let count := min 8 (x.axles.length - (first - 1))
      b.length = 45 + 16 * count ∧ n 43 1 = first ∧ n 44 1 = count ∧
      ∀ (i : Nat) (a : AxleEntry), i < count → x.axles[first - 1 + i]? = some a →
        a.speed ≤ 60000 → (∀ y, a.spacing = some y → y ≤ 2000) → (∀ y, a.right = some y → y ≤ 32767) →
        (∀ y, a.left = some y → y ≤ 32767) → a.load ≤ 65534 →
        let o := 45 + 16 * i
        n o 4 = a.time.toNat ∧ n (o + 4) 2 = a.speed ∧ n (o + 6) 2 = a.spacing.getD 65535 ∧
        n (o + 8) 2 = a.right.getD 65535 ∧ n (o + 10) 2 = a.left.getD 65535 ∧ n (o + 12) 2 = a.load ∧
        n (o + 14) 2 = a.flags.toNat % 1024)) ∧
  ∀ e : AlertEntry, e.code ≤ 31 → e.closeTime.tick < 16384 →
    (∀ w, e.worst = some w → w.excess ≤ 65535 ∧ ∀ i, w.index = some i → i ≤ 16) →
    let b := alertBytes e
    let n := numberAt b
    b.length = 17 ∧ n 0 4 = e.seq.toNat ∧ n 4 1 = laneNumber e.lane ∧ n 5 1 = e.code ∧
    n 6 1 = (match e.alert with | .none => 0 | .advisory => 1 | .enforceable => 2) ∧
    n 7 2 = (match e.worst with | some w => w.excess | none => 0) ∧
    n 9 1 = (match e.worst with
      | some w => (match w.kind with | .single => 0 | .tandem => 1 | .tridem => 2 | .gross => 3) | none => 255) ∧
    n 10 1 = ((e.worst.bind fun w => w.index).getD 255) ∧
    n 11 4 = e.closeTime.seconds.toNat ∧ n 15 2 = e.closeTime.tick

/-- READ_SEQ (R117, R128) and SEEK (R130), each with its refusals in order; READ_SEQ changes nothing, SEEK the cursor
alone. -/
def Obligations.ReadSeqAndSeek : Prop :=
  ∀ (s : State) (p : PortId) (tag : Byte) (seq : Seq), Taking p s → RingInv s →
    let q := s.ringPort p
    let count := s.rr.ring.length
    let age := (s.rr.next - seq).toNat
    let oldest : Seq := s.rr.next - BitVec.ofNat 32 count
    let bounds := bytesLE 4 oldest.toNat ++ bytesLE 4 s.rr.next.toNat
    (∀ first : Byte,
      let read (r : Reply) : Prop := exec (.readSeq p tag seq first) s = .next (answered p 0x13 tag r s)
      (first.toNat = 0 ∨ 16 < first.toNat → read ⟨.range, []⟩) ∧
      (1 ≤ first.toNat → first.toNat ≤ 16 →
        (count < age → age ≤ 2 ^ 31 → read ⟨.gone, bounds⟩) ∧ (age = 0 ∨ 2 ^ 31 < age → read ⟨.notYet, bounds⟩) ∧
        ∀ y ∈ s.rr.ring, y.seq = seq →
          (q.format = .full → y.axleCount < first.toNat → read ⟨.range, []⟩) ∧
          (q.format = .summary ∨ first.toNat ≤ y.axleCount → read ⟨.ok, recordBytes q.format y first.toNat⟩))) ∧
    ∀ target : Byte,
      let moved (c : Seq) : Prop := exec (.seek p tag target seq) s =
        .next (answered p 0x14 tag ⟨.ok, bytesLE 4 c.toNat ++ bounds⟩ (s.withRingPort p { q with cursor := c }))
      let refused : Prop := exec (.seek p tag target seq) s = .next (answered p 0x14 tag ⟨.range, []⟩ s)
      (target.toNat = 0 → moved oldest) ∧ (target.toNat = 1 → s.rr.ring ≠ [] → moved (s.rr.next - 1)) ∧
      (target.toNat = 1 → s.rr.ring = [] → moved s.rr.next) ∧ (target.toNat = 2 → moved s.rr.next) ∧
      (target.toNat = 3 → age ≤ count → moved seq) ∧ (target.toNat = 3 → count < age → refused) ∧
      (4 ≤ target.toNat → refused)

/-- SET_FILTER (R125), SET_ALERTS (R131) and TAKE_ALERT (R132): the filter and format, or the subscription, replaced and
answered, or refused with RANGE; the head of the alert queue taken with the number left, or EMPTY with 0. -/
def Obligations.PortRingSettings : Prop :=
  ∀ (s : State) (p : PortId) (tag : Byte), Taking p s →
    let q := s.ringPort p
    (∀ (lanes : Byte) (classes : BitVec 32) (format : Byte),
      (lanes.toNat < 16 → format.toNat < 2 → exec (.setFilter p tag lanes classes format) s = .next (answered p 0x10 tag
        ⟨.ok, [lanes] ++ bytesLE 4 classes.toNat ++ [format]⟩ (s.withRingPort p
          { q with
            laneMask := lanes.setWidth 4, classMask := classes
            format := if format.toNat = 0 then .full else .summary }))) ∧
      (16 ≤ lanes.toNat ∨ 2 ≤ format.toNat →
        exec (.setFilter p tag lanes classes format) s = .next (answered p 0x10 tag ⟨.range, []⟩ s))) ∧
    (∀ x : Byte,
      (x.toNat < 3 → exec (.setAlerts p tag x) s = .next (answered p 0x11 tag ⟨.ok, [x]⟩ (s.withRingPort p
        { q with
          subscription := if x.toNat = 0 then .off else if x.toNat = 1 then .enforceableOnly else .all }))) ∧
      (3 ≤ x.toNat → exec (.setAlerts p tag x) s = .next (answered p 0x11 tag ⟨.range, []⟩ s))) ∧
    (∀ e rest, q.alerts = e :: rest → exec (.takeAlert p tag) s = .next (answered p 0x15 tag
      ⟨.ok, alertBytes e ++ bytesLE 1 rest.length⟩ (s.withRingPort p { q with alerts := rest }))) ∧
    (q.alerts = [] → exec (.takeAlert p tag) s = .next (answered p 0x15 tag ⟨.empty, [0]⟩ s))

/-! ### The calibration set -/

/-- TABLE_SELECT (R142) and TABLE_READ (R143): the pointer replaced or refused with RANGE; the entry at the pointer read
from the pending set by the claim holder and from the active set by any other, the pointer stepping with INCREMENT; a
pointer past the end refused with RANGE. -/
def Obligations.TableSelectAndRead : Prop :=
  ∀ (s : State) (p : PortId) (tag : Byte), Taking p s →
    let x := (s.port p).pointer
    (∀ table index mode : Byte,
      let refused : Prop := exec (.tableSelect p tag table index mode) s = .next (answered p 0x20 tag ⟨.range, []⟩ s)
      (9 ≤ table.toNat → refused) ∧ (2 ≤ mode.toNat → refused) ∧
      ∀ k, tableCode k = table.toNat →
        (entryCount k ≤ index.toNat → refused) ∧
        (index.toNat < entryCount k → mode.toNat < 2 → exec (.tableSelect p tag table index mode) s = .next
          (answered p 0x20 tag ⟨.ok, [table, index, mode]⟩ (s.withPort p { s.port p with
            pointer := ⟨k, index.toNat, if mode.toNat = 0 then .none else .increment⟩ })))) ∧
    (entryCount x.table ≤ x.index → exec (.tableRead p tag) s = .next (answered p 0x21 tag ⟨.range, []⟩ s)) ∧
    (x.index < entryCount x.table →
      let holder : Bool := decide (s.cc.claim = some p)
      exec (.tableRead p tag) s = .next (answered p 0x21 tag
        ⟨.ok, choiceByte (tableCode x.table) ++ bytesLE 1 x.index ++ boolByte holder ++ bytesLE 4 s.cc.revision.toNat ++
          encodeEntry (if holder then s.cc.edits else s.cc.active) x.table x.index⟩
        (s.withPort p { s.port p with pointer :=
          { x with index := if x.step = StepMode.increment then x.index + 1 else x.index } })))

/-- TABLE_WRITE from a MAINTENANCE port (R144): refused in the rule's order with RANGE, BAD_LENGTH, BUSY and CLAIMED, with no
change; else the claim is taken, the clamped entry stored in the pending set, the idle expiry set to 120 s from this tick
and the pointer stepped, the answer OK or CLAMPED with the clamped positions and the entry as stored. -/
def Obligations.TableWriteActs : Prop :=
  ∀ (s : State) (p : PortId) (tag : Byte) (entry : List Byte), TakingAny p s →
    let x := (s.port p).pointer
    let fits : Prop := x.index < entryCount x.table
    let length : Prop := entry.length = entryLength x.table x.index
    let free : Prop := s.cc.claim = none ∨ s.cc.claim = some p
    let refused (k : Status) : Prop := exec (.tableWrite p tag entry) s = .next (answered p 0x22 tag ⟨k, []⟩ s)
    let stored := storeEntry s.cc.edits x.table x.index entry
    (¬ fits → refused .range) ∧ (fits → ¬ length → refused .badLength) ∧
    (fits → length → s.cc.waiting = true → refused .busy) ∧
    (fits → length → s.cc.waiting = false → ¬ free → refused .claimed) ∧
    (fits → length → s.cc.waiting = false → free → exec (.tableWrite p tag entry) s = .next (answered p 0x22 tag
      ⟨if stored.2 = [] then .ok else .clamped,
        choiceByte (tableCode x.table) ++ bytesLE 1 x.index ++ bytesLE 1 stored.2.length ++
          stored.2.flatMap (bytesLE 1) ++ encodeEntry stored.1 x.table x.index⟩
      ({ s with cc := { s.cc with
          claim := some p, edits := stored.1, claimExpiry := some (s.now + 1966080#32) } }.withPort p
        { s.port p with pointer := { x with index := if x.step = StepMode.increment then x.index + 1 else x.index } })))

/-- What a TABLE_WRITE stores (R145, R190): each field by its kind, a number or signed number at the nearer end of its range,
a choice without a value at its built-in default, an absent coding as absent; a spacing rule with one bound absent has both
absent; the positions answered, counted from 1, are those of the fields clamped, in order; every other entry of the set is as
before. That the other bound of such a rule is still clamped and named is DEDUCED (notes/assumptions/20.md). -/
def Obligations.WrittenFieldsAreClamped : Prop :=
  ∀ (set : CalSet) (t : TableId) (index : Nat) (entry : List Byte), index < entryCount t →
    entry.length = entryLength t index →
    let written := fieldsLE (entryWidths t index) entry
    let kinds := fieldKinds set t index
    let r := storeEntry set t index entry
    kinds.length = written.length ∧
    entryFields r.1 t index = storedFields set t index written ∧
    r.2.Pairwise (fun i j => i < j) ∧
    (∀ i, i ∈ r.2 ↔ 1 ≤ i ∧ ∃ k v, kinds[i - 1]? = some k ∧ written[i - 1]? = some v ∧ k.clamps v = true) ∧
    ∀ (u : TableId) (j : Nat), j < entryCount u → (u, j) ≠ (t, index) → entryFields r.1 u j = entryFields set u j

/-- An entry that lies within its ranges, coded by 11.4 and written back, is stored as it was, no field clamped (R145, R189,
R190); the coding has the entry's length. -/
def Obligations.TableEntryRoundTrip : Prop :=
  ∀ (set : CalSet) (t : TableId) (index : Nat), index < entryCount t → EntryInRange set t index →
    storeEntry set t index (encodeEntry set t index) = (set, []) ∧
    (encodeEntry set t index).length = entryLength t index

/-- COMMIT from a MAINTENANCE port (R149, R150, R151): its refusals in order; accepted, the commit waits, the idle expiry is
cleared and the timeout runs, and with every context EMPTY the activation is to take place at this tick. The set passes
validation exactly when its five relations hold; the first of them in the order of R150 that fails names its table, and the
first entry that fails it. -/
def Obligations.CommitActs : Prop :=
  (∀ (s : State) (p : PortId) (tag : Byte), TakingAny p s →
    let ends (r : Reply) (t : State) : Prop := exec (.commit p tag) s = .next (answered p 0x23 tag r t)
    (∀ o, s.cc.claim = some o → o ≠ p → ends ⟨.claimed, []⟩ s) ∧
    (s.cc.claim = none → ends ⟨.invalid, [0xFF, 0xFF]⟩ s) ∧
    (s.cc.claim = some p → s.cc.waiting = true → ends ⟨.busy, []⟩ s) ∧
    (s.cc.claim = some p → s.cc.waiting = false →
      (∀ t i, validationFailure s.cc.edits = some (t, i) →
        ends ⟨.invalid, choiceByte (tableCode t) ++ bytesLE 1 i⟩ s) ∧
      (validationFailure s.cc.edits = none →
        (s.cc.persist.isSome = true → ends ⟨.busy, []⟩ s) ∧
        (s.cc.persist = none → s.cc.revision = 0xFFFFFFFF#32 → ends ⟨.range, []⟩ s) ∧
        (s.cc.persist = none → s.cc.revision ≠ 0xFFFFFFFF#32 → ends ⟨.accepted, []⟩ { s with cc :=
          { s.cc with
            waiting := true, claimExpiry := none
            commitExpiry := some (s.now + BitVec.ofNat 32 (s.set.site.commitTimeout * 16384))
            activationNear := [Ix4.one, .two, .three, .four].all fun l =>
              decide ((s.context l).state = .empty) } })))) ∧
  ∀ set : CalSet,
    let temp (i : Nat) : Int := (set.temp.toList.getD i ⟨0, 0⟩).temp
    let speed (i : Nat) : Nat := (set.speed.toList.getD i ⟨0, 0⟩).speed
    let window (l : Lane) := transitWindow set.site (set.lanes.get l).spacing
    let site : Prop := set.site.vMin < set.site.vMax
    let temps : Prop := ∀ i, i < 7 → temp i < temp (i + 1)
    let speeds : Prop := ∀ i, i < 7 → speed i < speed (i + 1)
    let classes : Prop := ∀ e ∈ set.classes.toList, e.countMin ≤ e.countMax
    (validationFailure set = none ↔
      site ∧ temps ∧ speeds ∧ classes ∧ ∀ l, (window l).dtMin ≤ (window l).dtMax) ∧
    (¬ site → validationFailure set = some (.site, 0)) ∧
    (∀ i, site → i < 7 → (∀ j, j < i → temp j < temp (j + 1)) → ¬ temp i < temp (i + 1) →
      validationFailure set = some (.temp, i + 1)) ∧
    (∀ i, site → temps → i < 7 → (∀ j, j < i → speed j < speed (j + 1)) → ¬ speed i < speed (i + 1) →
      validationFailure set = some (.speed, i + 1)) ∧
    (∀ (i : Nat) (e : ClassEntry), site → temps → speeds → set.classes.toList[i]? = some e → e.countMax < e.countMin →
      (∀ (j : Nat) (d : ClassEntry), j < i → set.classes.toList[j]? = some d → d.countMin ≤ d.countMax) →
      validationFailure set = some (.cls, i)) ∧
    ∀ l, site → temps → speeds → classes → (window l).dtMax < (window l).dtMin →
      (∀ m, laneNumber m < laneNumber l → (window m).dtMin ≤ (window m).dtMax) →
      validationFailure set = some (.lane, laneNumber l - 1)

/-- DISCARD from a MAINTENANCE port (R148) and CLAIM_IDLE_EXPIRY (R147): the holder's claim is released, a waiting commit
cancelled, and the pending set reverted to the active set; without a claim DISCARD changes nothing; the idle expiry sets
MAINT at all ports. -/
def Obligations.DiscardAndClaimIdle : Prop :=
  (∀ (s : State) (p : PortId) (tag : Byte), TakingAny p s →
    (∀ o, s.cc.claim = some o → o ≠ p → exec (.discard p tag) s = .next (answered p 0x24 tag ⟨.claimed, []⟩ s)) ∧
    (s.cc.claim = none →
      exec (.discard p tag) s = .next (answered p 0x24 tag ⟨.ok, [0] ++ bytesLE 4 s.cc.revision.toNat⟩ s)) ∧
    (s.cc.claim = some p → exec (.discard p tag) s = .next (answered p 0x24 tag
      ⟨.ok, [1] ++ bytesLE 4 s.cc.revision.toNat⟩ { s with cc := { s.cc with
        claim := none, claimExpiry := none, edits := s.cc.active, waiting := false, commitExpiry := none,
        activationDue := false, activationNear := false } }))) ∧
  ∀ (s : State) (t : Time), Live s → s.cc.claim.isSome = true → s.cc.waiting = false → s.cc.claimExpiry = some t →
    reached s.now t = true → exec .claimIdleExpiry s = .next (raised Notice.maint { s with cc := { s.cc with
      claim := none, claimExpiry := none, edits := s.cc.active } })

/-- ACTIVATION (R15, R38, R54, R55, R91, R92, R151 to R154) of a commit whose moment has come: the pending set is active
with the revision one higher, every block takes it up, the claim and the commit end, MAINT is set, and the persist starts
with the store's mark erased. Queue entries older than the new Δt_max are dropped and counted; a context open for the new
max duration closes with TIMEOUT and CAL_CHANGED under the new revision, and any other is marked; a lane that is not CLOSED
and whose polarity changes is re-read, and its context takes the event (a test on it: PresenceEventsAct). That the re-read
comes after the TIMEOUT, and both after the SFE and the XF have taken up the set, so that a vehicle opened here reads the
hold indication they leave and the test lane's old entries are counted, is the model's choice (notes/assumptions/28.md).
COMMIT_TIMEOUT_EXPIRY in COMMIT_WAIT, and an event that leaves every context EMPTY in it, bring the activation on. What a
channel holds of a hit or a hold it has left is the model's choice (notes/assumptions/22.md). -/
def Obligations.ActivationTakesEffect : Prop :=
  (∀ s : State, s.powered = true → s.cc.activationDue = true ∨ s.cc.activationNear = true → s.cc.restartDue = false →
    ∃ t, exec .activation s = .next t ∧
      t.cc = { s.cc with
        active := s.cc.edits, revision := s.cc.revision + 1, claim := none, claimExpiry := none, waiting := false,
        commitExpiry := none, activationDue := false, activationNear := false, persist := some s.now
        store := { s.cc.store with mark := false } } ∧
      t.clock = s.clock ∧ t.pins = s.pins ∧
      (∀ p, (s.port p).role ≠ .disabled → (t.port p).flags &&& Notice.maint ≠ 0) ∧
      (∀ l, t.xf.windows.get l = transitWindow s.cc.edits.site (s.cc.edits.lanes.get l).spacing) ∧
      (∀ l, let old (x : Crossing) : Bool := decide ((t.xf.windows.get l).dtMax < (s.now - x.time).toNat)
        t.xf.orphanA.get l = s.xf.orphanA.get l + BitVec.ofNat 32 ((s.queue l).countP old) ∧
        (s.testLane ≠ some l → t.queue l = (s.queue l).filter (fun x => !old x) ∧ ∀ r, t.pool l r = s.pool l r)) ∧
      (∀ c : ChannelId, s.testLane ≠ some c.lane → t.channel c =
        match (s.set.channels.chan c).enabled, (s.cc.edits.channels.chan c).enabled with
        | true, false => { (s.channel c).clearHit with state := .off, hold := 0 }
        | false, true => if s.mode c.lane = .closed then s.channel c else
            { (s.channel c).clearHit with state := .settling, seeded := false, settling := 0, hold := 0 }
        | true, true => s.channel c
        | false, false => s.channel c) ∧
      (∀ i, t.ptu.probes.get i =
        match s.set.probes.get i, s.cc.edits.probes.get i with
        | true, true => s.ptu.probes.get i
        | false, true => ⟨.stale, none, 0, false⟩
        | _, false => ⟨.off, none, 0, false⟩) ∧
      (∀ l, t.ptu.lanes.get l = freshLaneTemp s.cc.edits t.ptu.probes (s.cc.edits.lanes.get l)) ∧
      ∀ l,
        let marked := { s.context l with calChanged := true }
        let out := decide (s.cc.edits.site.maxDuration * 16384 ≤ (s.now - (s.context l).openTick).toNat)
        let reread : Prop := s.mode l ≠ .closed ∧
          (s.set.lanes.get l).presencePolarity ≠ (s.cc.edits.lanes.get l).presencePolarity
        let reads : Bool := s.pins.presence.get l == decide ((s.cc.edits.lanes.get l).presencePolarity = .activeHigh)
        let was : Bool := s.isOccupied l
        let empty : Prop := (s.context l).state = .empty
        (¬ reread ∨ reads = was → t.va.occupied.get l = s.va.occupied.get l) ∧
        (reread → reads = true → was = false → t.va.occupied.get l = some s.now) ∧
        (reread → reads = false → was = true → t.va.occupied.get l = none) ∧
        (¬ empty → out = true → (s.context l).axles ≠ [] →
          ∃ y ∈ t.rr.ring, y.lane = l ∧ y.axleCount = (s.context l).axles.length ∧ y.openTime = (s.context l).openTime ∧
            y.flags.getLsbD 13 = true ∧ y.flags.getLsbD 16 = true ∧ y.revision = s.cc.revision + 1) ∧
        (¬ empty → out = true → (s.context l).axles = [] → (s.context l).successor = none →
          t.va.ghosts.get l = s.va.ghosts.get l + 1) ∧
        (empty ∨ out = false → t.va.ghosts.get l = s.va.ghosts.get l) ∧
        (¬ empty → out = true → (s.context l).successor = none → ¬ reread ∨ reads = was →
          t.context l = emptyContext) ∧
        (s.testLane ≠ some l →
          (¬ empty → out = false → ¬ reread ∨ reads = was → t.context l = marked) ∧
          (¬ empty → out = false → reread → reads = true → was = false → t.context l =
            if marked.state = .opened then { marked with presenceSeen := true }
            else if marked.presenceSeen = false then
              { marked with state := .opened, presenceSeen := true, closeExpiry := none }
            else if marked.successor = none then { marked with successor := some (s.now, s.siteClock) }
            else marked) ∧
          (¬ empty → out = false → reread → reads = false → was = true → t.context l =
            if marked.state = .opened then
              { marked with
                state := .closing
                closeExpiry := some (s.now +
                  BitVec.ofNat 32 ((2 * (s.cc.edits.site.closeDelay * 16384) + 1000) / 2000)) }
            else marked) ∧
          (empty → reread → reads = true → was = false → t.context l =
            { emptyContext with
              state := .opened, openTick := s.now, openTime := s.siteClock, presenceSeen := true,
              channelHeld := t.laneHeld l }) ∧
          (empty → ¬ reread ∨ reads = false ∨ was = true → t.context l = s.context l))) ∧
  (∀ (s : State) (t : Time), Live s → s.cc.waiting = true → s.cc.commitExpiry = some t → reached s.now t = true →
    exec .commitTimeoutExpiry s = .next { s with cc := { s.cc with commitExpiry := none, activationDue := true } }) ∧
  ∀ s : State,
    (s.cc.waiting = true → s.cc.activationNear = false → (∀ l, (s.context l).state = .empty) →
      noteEmptied s = { s with cc := { s.cc with activationDue := true } }) ∧
    (s.cc.waiting = false ∨ s.cc.activationNear = true ∨ (∃ l, (s.context l).state ≠ .empty) → noteEmptied s = s)

/-- PERSIST_COMPLETE (R154, R156): with the read-back equal the store holds the active set and revision with its mark, the
store state is VALID and MAINT is set; with it differing the mark stays erased, the store state is FAILED and FAULT is set.
A pending restart is then due. The 200 ms are counted as 3,277 whole ticks (the model's choice, notes/assumptions/10.md). -/
def Obligations.PersistCompletes : Prop :=
  ∀ (s : State) (start : Time), Live s → s.cc.persist = some start → 3277 ≤ (s.now - start).toNat →
    exec (.persistComplete true) s = .next (raised Notice.maint { s with cc := { s.cc with
      persist := none, storeState := .valid, store := ⟨true, s.cc.active, s.cc.revision, true⟩,
      restartDue := s.cc.restartPending } }) ∧
    exec (.persistComplete false) s = .next (raised Notice.fault { s with cc := { s.cc with
      persist := none, storeState := .failed, restartDue := s.cc.restartPending } })

/-- Claim, commit, persist and restart stand together as Chapter 8 gives in every state that a step gives: among others,
without a claim the pending set is the active set (R146), and COMMIT_WAIT and PERSIST_BUSY never stand together (R149). -/
def Obligations.CalibrationStaysConsistent : Prop :=
  ∀ s t : State, ClaimInv s → CommitInv s → step s = .next t → ClaimInv t ∧ CommitInv t

/-! ### Restart, lanes and tests -/

/-- A restart is requested by RESTART and by a falling restart input (R156, R186): it takes effect at this tick, or waits
behind a persist. A commit that waits is abandoned, one accepted at this tick too: no activation results from it (R156).
That RESTART_INPUT moves the input is the model's choice (notes/assumptions/9.md); that a pulse ends at a port that masks
MAINT is DEDUCED (notes/assumptions/19.md). RESTART_TAKES_EFFECT (R19, R40, R58, R96, R116, R135, R156, R168, R187) empties
the traffic state, opens every lane, re-reads presence, releases the claim, zeroes the counts, and leaves MAINT alone
pending at every port. That a vehicle the re-read opens is not marked CHANNEL_HELD is the model's choice
(notes/assumptions/30.md). What a channel holds of a hit or a hold it has left is the model's choice
(notes/assumptions/22.md). -/
def Obligations.RestartTakesEffect : Prop :=
  (∀ (s : State) (p : PortId) (tag : Byte), TakingAny p s →
    (s.cc.persist = none → exec (.restart p tag) s =
      .next (answered p 0x34 tag ⟨.ok, [0]⟩ { s with cc := { s.cc with restartDue := true } })) ∧
    (s.cc.persist.isSome = true → exec (.restart p tag) s =
      .next (answered p 0x34 tag ⟨.ok, [1]⟩ { s with cc := { s.cc with restartPending := true } }))) ∧
  (∀ s : State, Live s →
    let u := { s with pins := { s.pins with restartHigh := false, restartEdge := false } }
    (s.pins.restartEdge = true ∨ s.pins.restartHigh = true →
      (s.cc.persist = none → exec .restartInput s = .next { u with cc := { s.cc with restartDue := true } }) ∧
      (s.cc.persist.isSome = true → exec .restartInput s = .next { u with cc := { s.cc with restartPending := true } })) ∧
    (s.pins.restartEdge = false → s.pins.restartHigh = false → exec .restartInput s = .next s)) ∧
  ∀ s : State, s.powered = true → s.cc.activationDue = false → s.cc.restartDue = true →
    ∃ t, exec .restartTakesEffect s = .next t ∧
      t.clock = s.clock ∧ t.pins = s.pins ∧ t.ptu = s.ptu ∧
      (∀ c : ChannelId, t.channel c = if (s.set.channels.chan c).enabled = true
        then { (s.channel c).clearHit with state := .settling, seeded := false, settling := 0, hold := 0 }
        else { (s.channel c).clearHit with state := .off, hold := 0 }) ∧
      (∀ l, laneCounters t l = [0, 0, 0, 0, 0, 0, 0] ∧ t.queue l = [] ∧ t.cle.triggers.get l = none ∧
        t.xf.windows.get l = s.xf.windows.get l) ∧
      (∀ l r, t.pool l r = []) ∧
      (∀ l, (s.readsOccupied l = true → s.isOccupied l = false → t.va.occupied.get l = some s.now ∧
          t.context l = { emptyContext with
            state := .opened, openTick := s.now, openTime := s.siteClock, presenceSeen := true }) ∧
        (s.readsOccupied l = s.isOccupied l →
          t.va.occupied.get l = s.va.occupied.get l ∧ t.context l = emptyContext) ∧
        (s.readsOccupied l = false → t.va.occupied.get l = none ∧ t.context l = emptyContext)) ∧
      t.rr.ring = [] ∧ t.rr.next = s.rr.next ∧
      (∀ p, (s.port p).role ≠ .disabled → t.ringPort p =
        { s.ringPort p with cursor := s.rr.next, alerts := [], recordLoss := 0, alertLoss := 0 }) ∧
      t.cc = { s.cc with
        claim := none, claimExpiry := none, edits := s.cc.active, waiting := false, commitExpiry := none,
        activationDue := false, activationNear := false, restartPending := false, restartDue := false } ∧
      (∀ l, t.mode l = .opened) ∧ t.ltg.test = none ∧
      t.ltg.last = (match s.ltg.test with
        | some x => some ⟨x.lane, x.pattern, .aborted, s.siteClock, none, none⟩
        | none => s.ltg.last) ∧
      ∀ p, t.port p =
        (if (s.port p).role = .disabled then s.port p
         else
          { s.port p with
            frameErrors := 0, overruns := 0, flags := Notice.maint
            pulse := if (s.port p).lineMode ≠ .pulse then (s.port p).pulse
              else if (s.port p).mask &&& Notice.maint = 0 then some (s.now + 16#32) else none
            reminderExpiry := if (s.port p).lineMode ≠ .pulse then (s.port p).reminderExpiry
              else if (s.port p).mask &&& Notice.maint ≠ 0 then none
              else if (s.port p).reminder = true then some (s.now + 8192#32) else (s.port p).reminderExpiry })

/-- LANE_MODE from a MAINTENANCE port (R157, R158, R159, R167): codes outside the admitted ones are refused with RANGE; a
request for the mode the lane has changes nothing; a closing lane closes its vehicle INTERRUPTED and falls quiet; an opening
lane settles its enabled channels and re-reads its presence; a lane in TEST has its test aborted first. What a channel holds
of a hit or a hold it has left is the model's choice (notes/assumptions/22.md). -/
def Obligations.LaneModeActs : Prop :=
  ∀ (s : State) (p : PortId) (tag lane mode : Byte), TakingAny p s → LaneInv s →
    let ends (r : Reply) (t : State) : Prop := exec (.laneMode p tag lane mode) s = .next (answered p 0x30 tag r t)
    (lane.toNat = 0 ∨ 5 ≤ lane.toNat ∨ 2 ≤ mode.toNat → ends ⟨.range, []⟩ s) ∧
    ∀ l, laneNumber l = lane.toNat → mode.toNat < 2 →
      (s.mode l = .opened → mode.toNat = 0 → ends ⟨.ok, [0]⟩ s) ∧
      (s.mode l = .closed → mode.toNat = 1 → ends ⟨.ok, [1]⟩ s) ∧
      (s.mode l = .opened → mode.toNat = 1 →
        let u := if (s.context l).state = .empty then s else closeVehicle l Flag.interrupted s
        ∃ t, ends ⟨.ok, [1]⟩ (noteEmptied t) ∧
          (∀ c : ChannelId, t.channel c =
            if c.lane = l then { (s.channel c).clearHit with state := .off, hold := 0 } else s.channel c) ∧
          t = { u with
            sfe := { u.sfe with channels := t.sfe.channels }
            xf := { u.xf with pools := u.xf.pools.set l ⟨[], []⟩, queues := u.xf.queues.set l [] }
            va := { u.va with occupied := u.va.occupied.set l none }
            cle := { u.cle with triggers := u.cle.triggers.set l none }
            ltg := { u.ltg with modes := u.ltg.modes.set l .closed } }) ∧
      (s.mode l = .closed → mode.toNat = 0 →
        ∃ t, ends ⟨.ok, [0]⟩ t ∧
          (∀ c : ChannelId, t.channel c = if c.lane = l ∧ (s.set.channels.chan c).enabled = true
            then { (s.channel c).clearHit with state := .settling, seeded := false, settling := 0, hold := 0 }
            else s.channel c) ∧
          t = { s with
            sfe := { s.sfe with channels := t.sfe.channels }
            va := if s.readsOccupied l = true then
                { s.va with
                  occupied := s.va.occupied.set l (some s.now)
                  contexts := s.va.contexts.set l { emptyContext with
                    state := .opened, openTick := s.now, openTime := s.siteClock, presenceSeen := true } }
              else s.va
            ltg := { s.ltg with modes := s.ltg.modes.set l .opened } }) ∧
      ∀ x, s.mode l = .test → s.ltg.test = some x →
        ∃ t, ends ⟨.ok, [mode]⟩ (noteEmptied t) ∧ t.context l = emptyContext ∧ (∀ r, t.pool l r = []) ∧ t.queue l = [] ∧
          t.ltg = ⟨s.ltg.modes.set l (if mode.toNat = 0 then .opened else .closed), none,
            some ⟨l, x.pattern, .aborted, s.siteClock, none, none⟩⟩ ∧
          t.rr = s.rr ∧ t.va.ghosts = s.va.ghosts ∧ t.sfe.noise = s.sfe.noise ∧ t.xf.orphanA = s.xf.orphanA ∧
          t.ports = (raised Notice.maint s).ports ∧ t.cc = s.cc ∧ t.ptu = s.ptu ∧
          ∀ c : ChannelId, (t.channel c).health = (s.channel c).health ∧
            (t.channel c).state = (if c.lane ≠ l then (s.channel c).state
              else if mode.toNat = 1 then .off
              else if (s.channel c).state = .inHit then .idle else (s.channel c).state)

/-- LANE_TEST from a MAINTENANCE port (R160, R161): its refusals in order; accepted, the lane is in TEST and the schedule is
fixed: the test speed within the band, d samples for 200 mm, the row-A starts by the cumulative spacings, the row-B offset
by the row spacing, held inside the transit window, and the expiry a second after the last pulse. -/
def Obligations.LaneTestStarts : Prop :=
  ∀ (s : State) (p : PortId) (tag lane pattern : Byte), TakingAny p s →
    let ends (r : Reply) (t : State) : Prop := exec (.laneTest p tag lane pattern) s = .next (answered p 0x31 tag r t)
    (lane.toNat = 0 ∨ 5 ≤ lane.toNat ∨ 4 ≤ pattern.toNat → ends ⟨.range, []⟩ s) ∧
    ∀ l i, laneNumber l = lane.toNat → laneNumber i = pattern.toNat + 1 →
      let e := s.set.patterns.get i
      let ready : Prop := s.mode l = .opened ∧ (s.context l).state = .empty ∧ s.isOccupied l = false ∧
        ∀ c : ChannelId, c.lane = l → (s.channel c).state ≠ .held
      (e.enabled = false → ends ⟨.invalid, []⟩ s) ∧
      (e.enabled = true → s.ltg.test.isSome = true ∨ ¬ ready → ends ⟨.busy, []⟩ s) ∧
      (e.enabled = true → s.ltg.test = none → ready → s.set.site.vMin ≤ s.set.site.vMax → e.axleCount ≤ 8 →
        ∃ x : TestContext,
          ends ⟨.ok, bytesLE 4 x.startTime.toNat ++ bytesLE 2 x.speed ++ bytesLE 4 x.expiry.toNat⟩
            { s with ltg := { s.ltg with modes := s.ltg.modes.set l .test, test := some x } } ∧
          x.lane = l ∧ x.pattern = pattern.toNat ∧ x.axleCount = e.axleCount ∧ x.amplitude = e.amplitude ∧
          x.spacings = e.spacings.toList.take (e.axleCount - 1) ∧
          x.speed = min (max e.speed s.set.site.vMin) s.set.site.vMax ∧
          x.pulseLength = (2 * (200 * 16384) + x.speed) / (2 * x.speed) ∧
          x.startTime = s.now + 8192#32 ∧ x.rowAStarts.length = x.spacings.length + 1 ∧
          (∀ j, j ≤ x.spacings.length → x.rowAStarts[j]? = some (x.startTime +
            BitVec.ofNat 32 ((2 * (10 * (x.spacings.take j).sum * 16384) + x.speed) / (2 * x.speed)))) ∧
          x.rowBOffset = min (max ((2 * ((s.set.lanes.get l).spacing * 16384) + x.speed) / (2 * x.speed))
            (s.xf.windows.get l).dtMin) (s.xf.windows.get l).dtMax ∧
          (∀ last, x.rowAStarts.getLast? = some last →
            x.expiry = last + BitVec.ofNat 32 (x.rowBOffset + x.pulseLength) + 16384#32) ∧
          x.phase = .lead ∧ x.vehicleOpened = false)

/-- The injected excess (R16, R162): on the test lane's channels of a row the amplitude during the d samples of each pulse,
else 0; INJECTION_PULSE brings the phase and the excess supplied to the schedule. -/
def Obligations.InjectionFollowsSchedule : Prop :=
  ∀ (s : State) (x : TestContext), s.ltg.test = some x →
    let pulse (now : Time) (offset : Nat) : Bool :=
      x.rowAStarts.any fun a => decide ((now - (a + BitVec.ofNat 32 offset)).toNat < x.pulseLength)
    let amount (now : Time) : Row → Nat
      | .a => if pulse now 0 then x.amplitude else 0
      | .b => if pulse now x.rowBOffset then x.amplitude else 0
    (∀ (now : Time) (c : ChannelId), injectedExcess s now c = if x.lane = c.lane then amount now c.row else 0) ∧
    (Live s → ∃ phase,
      let x' := { x with phase := phase, supplied := ⟨amount s.now .a, amount s.now .b⟩ }
      exec .injectionPulse s = .next { s with ltg := { s.ltg with test := some x' } } ∧
      (timeDiff s.now x.startTime < 0 → phase = .lead) ∧
      ∀ last, x.rowAStarts.getLast? = some last → 0 ≤ timeDiff s.now x.startTime →
        phase = if timeDiff s.now (last + BitVec.ofNat 32 (x.rowBOffset + x.pulseLength)) < 0
          then .injecting else .draining)

/-- A test ends (R17, R164, R165, R166): a channel's ratio is 1,000 times its measured area over n × a × d, rounded half up
and held at 65,535; the lane's health records follow; the outcome is PASSED with MAINT when all four are GOOD, else SUSPECT
with MAINT and FAULT; hits in progress are discarded unless the schedule is DRAINING at this tick (R162); the lane is OPEN
and the context cleared. TEST_EXPIRY without a vehicle ends it with every ratio 0 and no record. What a channel holds of a
hit or a hold it has left is the model's choice (notes/assumptions/22.md). -/
def Obligations.TestCompletes : Prop :=
  (∀ (x : TestContext) (axles : List Axle) (c : ChannelId), 0 < x.axleCount * x.amplitude * x.pulseLength →
    let area := ((axles.flatMap fun a => a.rightRows ++ a.leftRows).map fun w => if w.channel = c then w.area else 0).sum
    let n := x.axleCount * x.amplitude * x.pulseLength
    testRatio x axles c = min ((2 * (1000 * area) + n) / (2 * n)) 65535) ∧
  (∀ (s : State) (x : TestContext) (ratio : ChannelId → Nat) (record : Option Seq),
    let good (c : ChannelId) : Bool := decide (875 ≤ ratio c ∧ ratio c ≤ 1125)
    let all := x.lane.channels.all good
    let draining : Prop := 0 ≤ timeDiff s.now x.startTime ∧
      0 ≤ timeDiff s.now (x.rowAStarts.getLast?.getD x.startTime + BitVec.ofNat 32 (x.rowBOffset + x.pulseLength))
    let t := completeTest x ratio record s
    t.ltg = ⟨s.ltg.modes.set x.lane .opened, none, some ⟨x.lane, x.pattern, if all then .passed else .suspect,
      s.siteClock, some (x.lane.channels.map ratio), record⟩⟩ ∧
    (∀ c, t.channel c = if c.lane = x.lane then
        { (if (s.channel c).state = .inHit ∧ ¬ draining
            then { (s.channel c).clearHit with state := .idle } else s.channel c) with
          health := if good c then .good else .suspect, ratio := some (ratio c) }
      else s.channel c) ∧
    t.ports = (raised (if all then Notice.maint else Notice.maint ||| Notice.fault) s).ports ∧
    t = { s with sfe := { s.sfe with channels := t.sfe.channels }, ltg := t.ltg, ports := t.ports }) ∧
  ∀ (s : State) (x : TestContext), Live s → CommitInv s → s.ltg.test = some x → reached s.now x.expiry = true →
    (x.vehicleOpened = false → exec .testExpiry s = .next (completeTest x (fun _ => 0) none s)) ∧
    (x.vehicleOpened = true → exec .testExpiry s = .next s)

/-- Every step keeps the lanes as Chapters 1, 2, 5, 7 and 9 give them: a lane is in TEST exactly while the test runs on it, a
channel is OFF exactly while its lane is CLOSED or it is disabled (R3), a CLOSED lane is quiet (R158), an EMPTY context is
cleared (R75), and pools, queues, axle lists and alert queues keep to their capacities (R26, R29, R80, R123). -/
def Obligations.LanesStayConsistent : Prop :=
  ∀ s t : State, LaneInv s → CapacityInv s → step s = .next t → LaneInv t ∧ CapacityInv t

/-! ### Ports -/

/-- A command frame received byte by byte by a hunting receiver is complete with its last check byte, passes the check, and
reads as the frame that was sent (R172, R173, 11.1). -/
def Obligations.FrameIsReceivedAsSent : Prop :=
  ∀ (f : Frame) (x : Port), f.payload.length ≤ 240 → x.rx = .hunting →
    let bytes := frameBody f ++ crcBytes (frameBody f)
    (commandFrame f).foldl (fun y b => receiveByte b y) x = { x with rx := .complete bytes } ∧
    frameChecks bytes = true ∧ frameOf bytes = f

/-- The receiver's events on a port that is not DISABLED (R171, R172): a good character by the receiver's state, its end
being noted; a framing error discards a frame being assembled with a count, an awaited sync byte without; a break discards
without count; where the gap before any of them had run past 82 ticks it discards first, with its count (how long before its
event a character or a break began: DEDUCED, notes/assumptions/12.md). INTER_BYTE_GAP_TIMEOUT discards from 83 ticks on;
within 82, or with nothing partial, it has no effect (the model's choice, notes/assumptions/4.md). -/
def Obligations.ReceiverEvents : Prop :=
  ∀ (s : State) (p : PortId), Live s → (s.port p).role ≠ .disabled → frameDue s p = false →
    s.clock.started = true ∨ (∀ q, frameDue s q = false) →
    let x := s.port p
    let gap := (s.now - x.rxLast).toNat
    let char := (10 * 16384 + (bitRate x.rate - 1)) / bitRate x.rate
    let drop (r : Receiver) : Port := { x with rx := r, frameErrors := x.frameErrors + 1 }
    (∀ b : Byte,
      let good (y : Port) : Prop := exec (.characterReceived p b true) s = .next (s.withPort p { y with rxLast := s.now })
      (x.rx = .hunting → good { x with rx := if b = 0xC3#8 then .awaitingSync else .hunting }) ∧
      (x.rx = .awaitingSync → gap ≤ 82 + char → good { x with
        rx := if b = 0x3C#8 then .assembling [] else if b = 0xC3#8 then .awaitingSync else .hunting }) ∧
      (x.rx = .awaitingSync → 82 + char < gap → good { x with rx := if b = 0xC3#8 then .awaitingSync else .hunting }) ∧
      (∀ bytes, x.rx = .assembling bytes → 82 + char < gap →
        good (drop (if b = 0xC3#8 then .awaitingSync else .hunting))) ∧
      (∀ bytes, x.rx = .assembling bytes → gap ≤ 82 + char →
        (bytes.length = 2 → 240 < b.toNat → good (drop .hunting)) ∧
        (bytes.length = 2 → b.toNat ≤ 240 → good { x with rx := .assembling (bytes ++ [b]) }) ∧
        (bytes.length < 2 → good { x with rx := .assembling (bytes ++ [b]) }) ∧
        (2 < bytes.length → good { x with
          rx := if bytes.length + 1 = (bytes.getD 2 0).toNat + 5 then .complete (bytes ++ [b])
            else .assembling (bytes ++ [b]) })) ∧
      let bad := exec (.characterReceived p b false) s
      (∀ bytes, x.rx = .assembling bytes → bad = .next (s.withPort p (drop .hunting))) ∧
      (x.rx = .awaitingSync → bad = .next (s.withPort p { x with rx := .hunting })) ∧ (x.rx = .hunting → bad = .next s)) ∧
    (x.rx = .hunting → exec (.lineBreak p) s = .next s) ∧
    (x.rx = .awaitingSync → exec (.lineBreak p) s = .next (s.withPort p { x with rx := .hunting })) ∧
    (∀ bytes, x.rx = .assembling bytes → exec (.lineBreak p) s =
      .next (s.withPort p (if gap ≤ 98 + char then { x with rx := .hunting } else drop .hunting))) ∧
    (82 < gap →
      (∀ bytes, x.rx = .assembling bytes → exec (.interByteGapTimeout p) s = .next (s.withPort p (drop .hunting))) ∧
      (x.rx = .awaitingSync → exec (.interByteGapTimeout p) s = .next (s.withPort p { x with rx := .hunting })) ∧
      (x.rx = .hunting → exec (.interByteGapTimeout p) s = .next s)) ∧
    (gap ≤ 82 → exec (.interByteGapTimeout p) s = .next s)

/-- FRAME_RECEIVED and RESPONSE_SENT (R173, R174): a frame that fails the check is dropped with a count; one that passes is
taken with the transmitter idle, held in an empty receive buffer, or dropped as an overrun; before the first sample tick it
waits for it, behind those that completed earlier (R188; the list is the model's, notes/assumptions/23.md); when the response
has been sent the transmitter is idle and the buffered frame is taken, its response beginning at this tick. -/
def Obligations.FramesAreServed : Prop :=
  ∀ (s : State) (p : PortId), Live s → (s.port p).role ≠ .disabled →
    let x := s.port p
    let taken (f : Frame) (u : State) : State :=
      let a := dispatch p f u
      answered p f.code f.tag a.2 a.1
    (∀ bytes, x.rx = .complete bytes →
      let u := s.withPort p { x with rx := .hunting }
      (frameChecks bytes = false → exec (.frameReceived p) s =
        .next (s.withPort p { x with rx := .hunting, frameErrors := x.frameErrors + 1 })) ∧
      (frameChecks bytes = true → s.clock.started = true →
        (x.tx = .idle → exec (.frameReceived p) s = .next (taken (frameOf bytes) u)) ∧
        (x.tx ≠ .idle → x.buffer = none → exec (.frameReceived p) s =
          .next (s.withPort p { x with rx := .hunting, buffer := some (frameOf bytes) })) ∧
        (x.tx ≠ .idle → x.buffer ≠ none → exec (.frameReceived p) s =
          .next (s.withPort p { x with rx := .hunting, overruns := x.overruns + 1 }))) ∧
      (frameChecks bytes = true → s.clock.started = false → exec (.frameReceived p) s =
        .next { u with early := s.early ++ [(p, frameOf bytes)] })) ∧
    ∀ frame finish, x.tx = .sending frame finish → reached s.now finish = true →
      let u := s.withPort p { x with tx := .idle, buffer := none }
      (x.buffer = none → exec (.responseSent p) s = .next u) ∧
      (∀ f, x.buffer = some f → exec (.responseSent p) s = .next (taken f u))

/-- A port command that cannot be taken at once waits in the receive buffer, is dropped as an overrun, or is left by a
DISABLED port (R170, R174); that each such row stands for a checked frame is the model's choice (notes/assumptions/24.md).
One that is taken is refused in order with UNKNOWN, DENIED or BAD_LENGTH, changing no state but the answer's (R175). -/
def Obligations.PortCommandsWaitOrAreRefused : Prop :=
  (∀ (s : State) (c : Instr) (p : PortId) (f : Frame), Live s → portFrame c = some (p, f) →
    let x := s.port p
    (x.role = .disabled → exec c s = .next s) ∧
    (x.role ≠ .disabled → s.clock.started = true → x.tx ≠ .idle →
      (x.buffer = none → exec c s = .next (s.withPort p { x with buffer := some f })) ∧
      (x.buffer ≠ none → exec c s = .next (s.withPort p { x with overruns := x.overruns + 1 })))) ∧
  (∀ (s : State) (p : PortId) (code tag : Byte), Taking p s → commandCodes.contains code.toNat = false →
    exec (.unknownCommand p code tag) s = .next (answered p code tag ⟨.unknown, []⟩ s)) ∧
  (∀ (s : State) (c : Instr) (p : PortId) (f : Frame), Taking p s → (s.port p).role ≠ .maintenance →
    portFrame c = some (p, f) → f.code.toNat ∈ [0x03, 0x22, 0x23, 0x24, 0x30, 0x31, 0x32, 0x33, 0x34] →
    exec c s = .next (answered p f.code f.tag ⟨.denied, []⟩ s)) ∧
  (∀ (s : State) (p : PortId) (f : Frame) (n : Nat), Taking p s →
    (f.code.toNat, n) ∈ [(0x01, 0), (0x02, 0), (0x04, 0), (0x05, 1), (0x06, 3), (0x10, 6), (0x11, 1), (0x12, 0), (0x13, 5),
      (0x14, 5), (0x15, 0), (0x20, 3), (0x21, 0)] → f.payload.length ≠ n →
    dispatch p f s = (s, ⟨.badLength, []⟩)) ∧
  ∀ (s : State) (p : PortId) (f : Frame) (n : Nat), TakingAny p s →
    (f.code.toNat, n) ∈ [(0x03, 0), (0x23, 0), (0x24, 0), (0x30, 2), (0x31, 2), (0x32, 1), (0x33, 4), (0x34, 0)] →
    f.payload.length ≠ n → dispatch p f s = (s, ⟨.badLength, []⟩)

/-- NOTICES and ACK_NOTICES (R182) and SET_NOTICE (R183, R185): the pending flags, mask, unmasked set and highest cause; the named
flags cleared and the line following (R185); the three settings replaced at once, the line following; each refused with
RANGE where a code names a flag beyond the five, no line mode, or neither on nor off. -/
def Obligations.NoticeCommands : Prop :=
  ∀ (s : State) (p : PortId) (tag : Byte), Taking p s →
    let x := s.port p
    (∀ cause : Byte,
      (∀ i, i < 5 → x.flags.getLsbD i = true → (∀ j, j < i → x.flags.getLsbD j = false) → cause = BitVec.ofNat 8 i) →
      (x.flags = 0 → cause = 0xFF#8) →
      exec (.notices p tag) s = .next (answered p 0x04 tag
        ⟨.ok, [x.flags.setWidth 8, x.mask.setWidth 8, (x.flags &&& ~~~x.mask).setWidth 8, cause]⟩ s)) ∧
    (∀ b : Byte,
      (32 ≤ b.toNat → exec (.ackNotices p tag b) s = .next (answered p 0x05 tag ⟨.range, []⟩ s)) ∧
      (b.toNat < 32 →
        let left := x.flags &&& ~~~(b.setWidth 5)
        exec (.ackNotices p tag b) s =
          .next (answered p 0x05 tag ⟨.ok, [left.setWidth 8]⟩ (s.withPort p (noticed s.now left x))))) ∧
    ∀ mask mode reminder : Byte,
      (32 ≤ mask.toNat ∨ 3 ≤ mode.toNat ∨ 2 ≤ reminder.toNat →
        exec (.setNotice p tag mask mode reminder) s = .next (answered p 0x06 tag ⟨.range, []⟩ s)) ∧
      ∀ m : LineMode, mask.toNat < 32 → lineModeCode m = mode.toNat → reminder.toNat < 2 →
        let on := decide (reminder.toNat = 1)
        let before := x.flags &&& ~~~x.mask
        let after := x.flags &&& ~~~(mask.setWidth 5)
        exec (.setNotice p tag mask mode reminder) s = .next (answered p 0x06 tag
          ⟨.ok, [mask, mode, reminder, x.flags.setWidth 8]⟩ (s.withPort p
            { x with
              mask := mask.setWidth 5, lineMode := m, reminder := on
              pulse := if m ≠ .pulse then none else if before = 0 ∧ after ≠ 0 then some (s.now + 16#32) else x.pulse
              reminderExpiry := if m = .pulse ∧ on = true ∧ after ≠ 0 then some (s.now + 8192#32) else none }))

/-- The notice line (R170, R184, R185, R188) and its timers: low while the unmasked set is not empty in LEVEL_LOW, high in
LEVEL_HIGH, low during a pulse in PULSE; high at a DISABLED port and before the first sample tick. NOTICE_PULSE_END ends the
pulse at its end time; REMINDER_EXPIRY starts a further one while the set is not empty. Commanded before its time a timer
has no effect (the model's choice, notes/assumptions/4.md). -/
def Obligations.NoticeLineAndTimers : Prop :=
  ∀ (s : State) (p : PortId),
    let x := s.port p
    let set := x.flags &&& ~~~x.mask
    (x.role = .disabled ∨ s.clock.started = false → noticeLine s p = true) ∧
    (x.role ≠ .disabled → s.clock.started = true →
      (x.lineMode = .levelLow → noticeLine s p = decide (set = 0)) ∧
      (x.lineMode = .levelHigh → noticeLine s p = decide (set ≠ 0)) ∧
      (x.lineMode = .pulse → noticeLine s p = x.pulse.isNone)) ∧
    (∀ t, Live s → x.pulse = some t →
      (reached s.now t = true → exec (.noticePulseEnd p) s = .next (s.withPort p { x with pulse := none })) ∧
      (reached s.now t = false → exec (.noticePulseEnd p) s = .next s)) ∧
    ∀ t, Live s → x.reminderExpiry = some t → x.reminder = true →
      (reached s.now t = true → set ≠ 0 → exec (.reminderExpiry p) s = .next (s.withPort p
        { x with pulse := some (s.now + 16#32), reminderExpiry := some (s.now + 8192#32) })) ∧
      (reached s.now t = false ∨ set = 0 → exec (.reminderExpiry p) s = .next s)

/-- STATUS and COUNTERS answer and change nothing (R177, R178); CLEAR_COUNTERS zeroes the 28 lane counters and no other
(R179); SET_CLOCK replaces the seconds count alone (R2, R179); CHANNEL_RESUME takes a HELD channel to SETTLING and leaves
any other, answering its state (R13). That SET_CLOCK at the tick of a due site second answers the value it wrote is DEDUCED
(notes/assumptions/7.md). What a channel holds of a hit or a hold it has left is the model's choice
(notes/assumptions/22.md). -/
def Obligations.StatusCountersClockResume : Prop :=
  (∀ (s : State) (p : PortId) (tag : Byte), Taking p s →
    exec (.status p tag) s = .next (answered p 0x01 tag ⟨.ok, statusBytes s p⟩ s) ∧
    exec (.counters p tag) s = .next (answered p 0x02 tag
      ⟨.ok, ([Ix4.one, .two, .three, .four].flatMap fun l => [s.rr.committed.get l, s.va.ghosts.get l, s.xf.orphanA.get l,
        s.xf.orphanB.get l, s.sfe.noise.get l, s.sfe.heldEntries.get l, s.cle.counts.get l]).flatMap
          fun c => bytesLE 4 c.toNat⟩ s)) ∧
  ∀ (s : State) (p : PortId) (tag : Byte), TakingAny p s →
    (∃ t, exec (.clearCounters p tag) s = .next (answered p 0x03 tag ⟨.ok, []⟩ t) ∧
      (∀ l, laneCounters t l = [0, 0, 0, 0, 0, 0, 0]) ∧
      t = { s with
        sfe := { s.sfe with noise := t.sfe.noise, heldEntries := t.sfe.heldEntries }
        xf := { s.xf with orphanA := t.xf.orphanA, orphanB := t.xf.orphanB }
        va := { s.va with ghosts := t.va.ghosts }, cle := { s.cle with counts := t.cle.counts }
        rr := { s.rr with committed := t.rr.committed } }) ∧
    (∀ x : BitVec 32, exec (.setClock p tag x) s = .next (answered p 0x33 tag
      ⟨.ok, bytesLE 4 x.toNat ++ bytesLE 2 s.clock.tick⟩ { s with clock := { s.clock with seconds := x } })) ∧
    ∀ b : Byte,
      (16 ≤ b.toNat → exec (.channelResume p tag b) s = .next (answered p 0x32 tag ⟨.range, []⟩ s)) ∧
      ∀ c, channelIndex c = b.toNat →
        ((s.channel c).state = .held → exec (.channelResume p tag b) s = .next (answered p 0x32 tag ⟨.ok, [1]⟩
          (s.withChannel c
            { (s.channel c).clearHit with state := .settling, seeded := false, settling := 0, hold := 0 }))) ∧
        ((s.channel c).state ≠ .held → exec (.channelResume p tag b) s =
          .next (answered p 0x32 tag ⟨.ok, choiceByte (channelCode (s.channel c).state)⟩ s))

/-- The layout of the STATUS snapshot (R177, R189): the groups in the order of R177, each field at its offset and of its
width. What R189 leaves open of an absent last test result is DEDUCED (notes/assumptions/13.md); the site clock counts a due
second (DEDUCED, notes/assumptions/7.md). -/
def Obligations.StatusIsCoded : Prop :=
  ∀ (s : State) (p : PortId), s.clock.tick < 16384 →
    (∀ l, let x := s.ptu.lanes.get l
      x.target ≤ 32767 ∧ x.applied ≤ 32767 ∧ -640 ≤ x.temp ∧ x.temp ≤ 1360) →
    (∀ c y, (s.channel c).ratio = some y → y ≤ 65535) →
    (∀ i y, (s.ptu.probes.get i).filtered = some y → -640 ≤ y ∧ y ≤ 1360) →
    (∀ y, s.ltg.last = some y → y.pattern ≤ 3 ∧ y.time.tick < 16384 ∧
      ∀ ratios, y.ratios = some ratios → ratios.length = 4 ∧ ∀ v ∈ ratios, v ≤ 65535) →
    (s.ringPort p).alerts.length ≤ 16 → (s.port p).pointer.index ≤ 32 →
    let b := statusBytes s p
    let n := numberAt b
    let flag (y : Bool) : Nat := if y = true then 1 else 0
    let signed (y : Int) : Int := if y < 0 then y + 65536 else y
    b.length = 202 ∧
    n 0 4 = (if s.clock.secondDue = true then s.clock.seconds + 1 else s.clock.seconds).toNat ∧ n 4 2 = s.clock.tick ∧
    (∀ l, let o := 6 + 11 * (laneNumber l - 1)
      let x := s.ptu.lanes.get l
      n o 1 = (match s.mode l with | .opened => 0 | .closed => 1 | .test => 2) ∧
      n (o + 1) 1 = (match (s.context l).state with | .empty => 0 | .opened => 1 | .closing => 2) ∧
      n (o + 2) 1 = flag (s.isOccupied l) ∧ n (o + 3) 1 = flag (s.cle.triggers.get l).isSome ∧
      (n (o + 4) 2 : Int) = signed x.temp ∧ n (o + 6) 1 = flag x.substituted ∧ n (o + 7) 2 = x.target ∧
      n (o + 9) 2 = x.applied) ∧
    (∀ c, let o := 50 + 4 * channelIndex c
      let x := s.channel c
      n o 1 = (match x.state with | .off => 0 | .settling => 1 | .idle => 2 | .inHit => 3 | .held => 4) ∧
      n (o + 1) 1 = (match x.health with | .good => 0 | .suspect => 1 | .untested => 2) ∧
      n (o + 2) 2 = x.ratio.getD 0) ∧
    (∀ i, let o := 114 + 3 * (laneNumber i - 1)
      let x := s.ptu.probes.get i
      n o 1 = (match x.state with | .off => 0 | .stale => 1 | .holding => 2 | .valid => 3) ∧
      (n (o + 1) 2 : Int) = (match x.filtered with | some y => signed y | none => 32768)) ∧
    n 126 4 = s.cc.revision.toNat ∧
    n 130 1 = (match s.cc.claim with | none => 0 | some .p1 => 1 | some .p2 => 2 | some .p3 => 3) ∧
    n 131 1 = flag s.cc.waiting ∧ n 132 1 = flag s.cc.persist.isSome ∧ n 133 1 = flag s.cc.restartPending ∧
    n 134 1 = (match s.cc.storeState with | .valid => 0 | .failed => 1 | .blank => 2) ∧
    n 135 1 = (match s.ltg.test with | some x => laneNumber x.lane | none => 255) ∧
    (s.ltg.last = none → n 136 1 = 255 ∧ n 137 1 = 255 ∧ n 138 1 = 255) ∧
    (∀ y, s.ltg.last = some y → n 136 1 = laneNumber y.lane ∧ n 137 1 = y.pattern ∧
      n 138 1 = (match y.outcome with | .passed => 0 | .suspect => 1 | .aborted => 2) ∧
      n 139 4 = y.time.seconds.toNat ∧ n 143 2 = y.time.tick ∧
      (∀ i, i < 4 → n (145 + 2 * i) 2 = (y.ratios.getD []).getD i 0) ∧
      n 153 4 = (match y.record with | some q => q.toNat | none => 0)) ∧
    n 157 4 = (s.rr.next - BitVec.ofNat 32 s.rr.ring.length).toNat ∧ n 161 4 = s.rr.next.toNat ∧
    let x := s.port p
    let q := s.ringPort p
    n 165 1 = (match x.role with | .enforcement => 0 | .statistics => 1 | .maintenance => 2 | .disabled => 3) ∧
    n 166 1 = (match x.rate with | .b115200 => 0 | .b460800 => 1 | .b921600 => 2 | .b1843200 => 3) ∧
    n 167 4 = q.cursor.toNat ∧ n 171 4 = q.recordLoss.toNat ∧ n 175 4 = q.alertLoss.toNat ∧
    n 179 1 = q.alerts.length ∧ n 180 1 = q.laneMask.toNat ∧ n 181 4 = q.classMask.toNat ∧
    n 185 1 = (match q.format with | .full => 0 | .summary => 1) ∧
    n 186 1 = (match q.subscription with | .off => 0 | .enforceableOnly => 1 | .all => 2) ∧
    n 187 1 = tableCode x.pointer.table ∧ n 188 1 = x.pointer.index ∧
    n 189 1 = (match x.pointer.step with | .none => 0 | .increment => 1) ∧
    n 190 4 = x.frameErrors.toNat ∧ n 194 4 = x.overruns.toNat ∧ n 198 1 = x.flags.toNat ∧ n 199 1 = x.mask.toNat ∧
    n 200 1 = (match x.lineMode with | .levelLow => 0 | .levelHigh => 1 | .pulse => 2) ∧ n 201 1 = flag x.reminder
end

