-- ==== Sys2Proof/Laws/State.lean ====
section
/-! SUPPORT. Small lemmas of the containers and of the updates of the state: reading after writing, and one lemma for each
part that an update leaves as it is. -/

namespace Sys2Proof

/-! ### Containers -/

section Containers
variable {α : Type}

@[simp] theorem Quad.get_set_self (q : Quad α) (i : Ix4) (v : α) : (q.set i v).get i = v := by cases i <;> rfl

theorem Quad.get_set_ne (q : Quad α) {i j : Ix4} (v : α) (h : j ≠ i) : (q.set i v).get j = q.get j := by
  cases i <;> cases j <;> first | rfl | exact absurd rfl h

theorem Quad.get_set (q : Quad α) (i j : Ix4) (v : α) : (q.set i v).get j = if j = i then v else q.get j := by
  cases i <;> cases j <;> rfl

@[simp] theorem Quad.set_set (q : Quad α) (i : Ix4) (v w : α) : (q.set i v).set i w = q.set i w := by cases i <;> rfl

@[simp] theorem Quad.set_get (q : Quad α) (i : Ix4) : q.set i (q.get i) = q := by cases i <;> rfl

@[simp] theorem Quad.get_of (f : Ix4 → α) (i : Ix4) : (Quad.of f).get i = f i := by cases i <;> rfl

@[simp] theorem Quad.get_all (v : α) (i : Ix4) : (Quad.all v).get i = v := by cases i <;> rfl

theorem Quad.ext_get {q r : Quad α} (h : ∀ i, q.get i = r.get i) : q = r := by
  cases q; cases r
  have h1 := h .one; have h2 := h .two; have h3 := h .three; have h4 := h .four
  simp_all [Quad.get]

@[simp] theorem Tri.get_set_self (t : Tri α) (p : PortId) (v : α) : (t.set p v).get p = v := by cases p <;> rfl

theorem Tri.get_set_ne (t : Tri α) {p q : PortId} (v : α) (h : q ≠ p) : (t.set p v).get q = t.get q := by
  cases p <;> cases q <;> first | rfl | exact absurd rfl h

theorem Tri.get_set (t : Tri α) (p q : PortId) (v : α) : (t.set p v).get q = if q = p then v else t.get q := by
  cases p <;> cases q <;> rfl

@[simp] theorem Tri.set_set (t : Tri α) (p : PortId) (v w : α) : (t.set p v).set p w = t.set p w := by cases p <;> rfl

@[simp] theorem Tri.set_get (t : Tri α) (p : PortId) : t.set p (t.get p) = t := by cases p <;> rfl

@[simp] theorem Tri.get_of (f : PortId → α) (p : PortId) : (Tri.of f).get p = f p := by cases p <;> rfl

theorem Tri.ext_get {t u : Tri α} (h : ∀ p, t.get p = u.get p) : t = u := by
  cases t; cases u
  have h1 := h .p1; have h2 := h .p2; have h3 := h .p3
  simp_all [Tri.get]

@[simp] theorem Rows.get_set_self (r : Rows α) (i : Row) (v : α) : (r.set i v).get i = v := by cases i <;> rfl

theorem Rows.get_set (r : Rows α) (i j : Row) (v : α) : (r.set i v).get j = if j = i then v else r.get j := by
  cases i <;> cases j <;> rfl

@[simp] theorem Rows.set_set (r : Rows α) (i : Row) (v w : α) : (r.set i v).set i w = r.set i w := by cases i <;> rfl

@[simp] theorem Rows.set_get (r : Rows α) (i : Row) : r.set i (r.get i) = r := by cases i <;> rfl

theorem Halves.get_set (h : Halves α) (i j : Half) (v : α) : (h.set i v).get j = if j = i then v else h.get j := by
  cases i <;> cases j <;> rfl

@[simp] theorem Halves.set_set (h : Halves α) (i : Half) (v w : α) : (h.set i v).set i w = h.set i w := by
  cases i <;> rfl

@[simp] theorem Halves.set_get (h : Halves α) (i : Half) : h.set i (h.get i) = h := by cases i <;> rfl

/-- Reading a channel after writing one. -/
theorem Quad.chan_setChan (q : PerChannel α) (c d : ChannelId) (v : α) :
    (q.setChan c v).chan d = if d = c then v else q.chan d := by
  rcases c with ⟨l, r, h⟩
  rcases d with ⟨l', r', h'⟩
  cases l <;> cases l' <;> cases r <;> cases r' <;> cases h <;> cases h' <;> rfl

@[simp] theorem Quad.chan_setChan_self (q : PerChannel α) (c : ChannelId) (v : α) : (q.setChan c v).chan c = v := by
  simp [Quad.chan_setChan]

@[simp] theorem Quad.setChan_setChan (q : PerChannel α) (c : ChannelId) (v w : α) :
    (q.setChan c v).setChan c w = q.setChan c w := by
  rcases c with ⟨l, r, h⟩
  cases l <;> cases r <;> cases h <;> rfl

@[simp] theorem Quad.setChan_chan (q : PerChannel α) (c : ChannelId) : q.setChan c (q.chan c) = q := by
  rcases c with ⟨l, r, h⟩
  cases l <;> cases r <;> cases h <;> rfl

@[simp] theorem Quad.chan_ofChan (f : ChannelId → α) (c : ChannelId) : (Quad.ofChan f).chan c = f c := by
  rcases c with ⟨l, r, h⟩
  cases l <;> cases r <;> cases h <;> rfl

/-- Reading a lane-row after writing one. -/
theorem Quad.row_setRow (q : Quad (Rows α)) (l l' : Lane) (r r' : Row) (v : α) :
    (q.setRow l r v).row l' r' = if l' = l ∧ r' = r then v else q.row l' r' := by
  cases l <;> cases l' <;> cases r <;> cases r' <;> rfl

@[simp] theorem Quad.row_setRow_self (q : Quad (Rows α)) (l : Lane) (r : Row) (v : α) : (q.setRow l r v).row l r = v := by
  simp [Quad.row_setRow]

@[simp] theorem Quad.setRow_setRow (q : Quad (Rows α)) (l : Lane) (r : Row) (v w : α) :
    (q.setRow l r v).setRow l r w = q.setRow l r w := by cases l <;> cases r <;> rfl

@[simp] theorem Quad.setRow_row (q : Quad (Rows α)) (l : Lane) (r : Row) : q.setRow l r (q.row l r) = q := by
  cases l <;> cases r <;> rfl

theorem ChannelId.mem_all (c : ChannelId) : c ∈ ChannelId.all := by
  rcases c with ⟨l, r, h⟩
  cases l <;> cases r <;> cases h <;> decide

theorem Ix4.mem_all (i : Ix4) : i ∈ Ix4.all := by cases i <;> decide

theorem PortId.mem_all (p : PortId) : p ∈ PortId.all := by cases p <;> decide

theorem Row.mem_all (r : Row) : r ∈ Row.all := by cases r <;> decide

end Containers

namespace Machine

/-! ### Reading after writing -/

theorem State.channel_withChannel (s : State) (c d : ChannelId) (x : Channel) :
    (s.withChannel c x).channel d = if d = c then x else s.channel d := Quad.chan_setChan ..

@[simp] theorem State.channel_withChannel_self (s : State) (c : ChannelId) (x : Channel) :
    (s.withChannel c x).channel c = x := Quad.chan_setChan_self ..

theorem State.pool_withPool (s : State) (l l' : Lane) (r r' : Row) (x : List PoolHit) :
    (s.withPool l r x).pool l' r' = if l' = l ∧ r' = r then x else s.pool l' r' := Quad.row_setRow ..

@[simp] theorem State.pool_withPool_self (s : State) (l : Lane) (r : Row) (x : List PoolHit) :
    (s.withPool l r x).pool l r = x := Quad.row_setRow_self ..

theorem State.queue_withQueue (s : State) (l l' : Lane) (x : List Crossing) :
    (s.withQueue l x).queue l' = if l' = l then x else s.queue l' := Quad.get_set ..

@[simp] theorem State.queue_withQueue_self (s : State) (l : Lane) (x : List Crossing) : (s.withQueue l x).queue l = x :=
  Quad.get_set_self ..

theorem State.context_withContext (s : State) (l l' : Lane) (x : Context) :
    (s.withContext l x).context l' = if l' = l then x else s.context l' := Quad.get_set ..

@[simp] theorem State.context_withContext_self (s : State) (l : Lane) (x : Context) : (s.withContext l x).context l = x :=
  Quad.get_set_self ..

theorem State.mode_withMode (s : State) (l l' : Lane) (x : LaneMode) :
    (s.withMode l x).mode l' = if l' = l then x else s.mode l' := Quad.get_set ..

@[simp] theorem State.mode_withMode_self (s : State) (l : Lane) (x : LaneMode) : (s.withMode l x).mode l = x :=
  Quad.get_set_self ..

theorem State.port_withPort (s : State) (p q : PortId) (x : Port) :
    (s.withPort p x).port q = if q = p then x else s.port q := Tri.get_set ..

@[simp] theorem State.port_withPort_self (s : State) (p : PortId) (x : Port) : (s.withPort p x).port p = x :=
  Tri.get_set_self ..

theorem State.ringPort_withRingPort (s : State) (p q : PortId) (x : RingPort) :
    (s.withRingPort p x).ringPort q = if q = p then x else s.ringPort q := Tri.get_set ..

@[simp] theorem State.ringPort_withRingPort_self (s : State) (p : PortId) (x : RingPort) :
    (s.withRingPort p x).ringPort p = x := Tri.get_set_self ..

@[simp] theorem State.withPort_withPort (s : State) (p : PortId) (x y : Port) :
    (s.withPort p x).withPort p y = s.withPort p y := by simp [State.withPort]

@[simp] theorem State.withRingPort_withRingPort (s : State) (p : PortId) (x y : RingPort) :
    (s.withRingPort p x).withRingPort p y = s.withRingPort p y := by simp [State.withRingPort]

@[simp] theorem State.withContext_withContext (s : State) (l : Lane) (x y : Context) :
    (s.withContext l x).withContext l y = s.withContext l y := by simp [State.withContext]

@[simp] theorem State.withChannel_withChannel (s : State) (c : ChannelId) (x y : Channel) :
    (s.withChannel c x).withChannel c y = s.withChannel c y := by simp [State.withChannel]

@[simp] theorem State.withPool_withPool (s : State) (l : Lane) (r : Row) (x y : List PoolHit) :
    (s.withPool l r x).withPool l r y = s.withPool l r y := by simp [State.withPool]

@[simp] theorem State.withQueue_withQueue (s : State) (l : Lane) (x y : List Crossing) :
    (s.withQueue l x).withQueue l y = s.withQueue l y := by simp [State.withQueue]

@[simp] theorem State.withPort_port (s : State) (p : PortId) : s.withPort p (s.port p) = s := by
  simp [State.withPort, State.port]

/-! ### What an update leaves as it is -/

@[simp] theorem State.withChannel_powered (s : State) (c : ChannelId) (x : Channel) : (s.withChannel c x).powered = s.powered := (rfl)
@[simp] theorem State.withChannel_clock (s : State) (c : ChannelId) (x : Channel) : (s.withChannel c x).clock = s.clock := (rfl)
@[simp] theorem State.withChannel_pins (s : State) (c : ChannelId) (x : Channel) : (s.withChannel c x).pins = s.pins := (rfl)
@[simp] theorem State.withChannel_xf (s : State) (c : ChannelId) (x : Channel) : (s.withChannel c x).xf = s.xf := (rfl)
@[simp] theorem State.withChannel_ptu (s : State) (c : ChannelId) (x : Channel) : (s.withChannel c x).ptu = s.ptu := (rfl)
@[simp] theorem State.withChannel_va (s : State) (c : ChannelId) (x : Channel) : (s.withChannel c x).va = s.va := (rfl)
@[simp] theorem State.withChannel_cle (s : State) (c : ChannelId) (x : Channel) : (s.withChannel c x).cle = s.cle := (rfl)
@[simp] theorem State.withChannel_rr (s : State) (c : ChannelId) (x : Channel) : (s.withChannel c x).rr = s.rr := (rfl)
@[simp] theorem State.withChannel_cc (s : State) (c : ChannelId) (x : Channel) : (s.withChannel c x).cc = s.cc := (rfl)
@[simp] theorem State.withChannel_ltg (s : State) (c : ChannelId) (x : Channel) : (s.withChannel c x).ltg = s.ltg := (rfl)
@[simp] theorem State.withChannel_ports (s : State) (c : ChannelId) (x : Channel) : (s.withChannel c x).ports = s.ports := (rfl)
@[simp] theorem State.withChannel_early (s : State) (c : ChannelId) (x : Channel) : (s.withChannel c x).early = s.early := (rfl)
@[simp] theorem State.withChannel_freeIndex (s : State) (c : ChannelId) (x : Channel) : (s.withChannel c x).freeIndex = s.freeIndex := (rfl)
@[simp] theorem State.withChannel_pending (s : State) (c : ChannelId) (x : Channel) : (s.withChannel c x).pending = s.pending := (rfl)
@[simp] theorem State.now_withChannel (s : State) (c : ChannelId) (x : Channel) :
    (s.withChannel c x).now = s.now := (rfl)
@[simp] theorem State.siteClock_withChannel (s : State) (c : ChannelId) (x : Channel) :
    (s.withChannel c x).siteClock = s.siteClock := (rfl)
@[simp] theorem State.set_withChannel (s : State) (c : ChannelId) (x : Channel) :
    (s.withChannel c x).set = s.set := (rfl)
@[simp] theorem State.testLane_withChannel (s : State) (c : ChannelId) (x : Channel) :
    (s.withChannel c x).testLane = s.testLane := (rfl)
@[simp] theorem State.pool_withChannel (s : State) (c : ChannelId) (x : Channel) (l' : Lane) (r' : Row) :
    (s.withChannel c x).pool l' r' = s.pool l' r' := (rfl)
@[simp] theorem State.queue_withChannel (s : State) (c : ChannelId) (x : Channel) (l' : Lane) :
    (s.withChannel c x).queue l' = s.queue l' := (rfl)
@[simp] theorem State.context_withChannel (s : State) (c : ChannelId) (x : Channel) (l' : Lane) :
    (s.withChannel c x).context l' = s.context l' := (rfl)
@[simp] theorem State.mode_withChannel (s : State) (c : ChannelId) (x : Channel) (l' : Lane) :
    (s.withChannel c x).mode l' = s.mode l' := (rfl)
@[simp] theorem State.isOccupied_withChannel (s : State) (c : ChannelId) (x : Channel) (l' : Lane) :
    (s.withChannel c x).isOccupied l' = s.isOccupied l' := (rfl)
@[simp] theorem State.port_withChannel (s : State) (c : ChannelId) (x : Channel) (p' : PortId) :
    (s.withChannel c x).port p' = s.port p' := (rfl)
@[simp] theorem State.ringPort_withChannel (s : State) (c : ChannelId) (x : Channel) (p' : PortId) :
    (s.withChannel c x).ringPort p' = s.ringPort p' := (rfl)
@[simp] theorem State.disabled_withChannel (s : State) (c : ChannelId) (x : Channel) (p' : PortId) :
    (s.withChannel c x).disabled p' = s.disabled p' := (rfl)
@[simp] theorem State.withPool_powered (s : State) (l : Lane) (r : Row) (x : List PoolHit) : (s.withPool l r x).powered = s.powered := (rfl)
@[simp] theorem State.withPool_clock (s : State) (l : Lane) (r : Row) (x : List PoolHit) : (s.withPool l r x).clock = s.clock := (rfl)
@[simp] theorem State.withPool_pins (s : State) (l : Lane) (r : Row) (x : List PoolHit) : (s.withPool l r x).pins = s.pins := (rfl)
@[simp] theorem State.withPool_sfe (s : State) (l : Lane) (r : Row) (x : List PoolHit) : (s.withPool l r x).sfe = s.sfe := (rfl)
@[simp] theorem State.withPool_ptu (s : State) (l : Lane) (r : Row) (x : List PoolHit) : (s.withPool l r x).ptu = s.ptu := (rfl)
@[simp] theorem State.withPool_va (s : State) (l : Lane) (r : Row) (x : List PoolHit) : (s.withPool l r x).va = s.va := (rfl)
@[simp] theorem State.withPool_cle (s : State) (l : Lane) (r : Row) (x : List PoolHit) : (s.withPool l r x).cle = s.cle := (rfl)
@[simp] theorem State.withPool_rr (s : State) (l : Lane) (r : Row) (x : List PoolHit) : (s.withPool l r x).rr = s.rr := (rfl)
@[simp] theorem State.withPool_cc (s : State) (l : Lane) (r : Row) (x : List PoolHit) : (s.withPool l r x).cc = s.cc := (rfl)
@[simp] theorem State.withPool_ltg (s : State) (l : Lane) (r : Row) (x : List PoolHit) : (s.withPool l r x).ltg = s.ltg := (rfl)
@[simp] theorem State.withPool_ports (s : State) (l : Lane) (r : Row) (x : List PoolHit) : (s.withPool l r x).ports = s.ports := (rfl)
@[simp] theorem State.withPool_early (s : State) (l : Lane) (r : Row) (x : List PoolHit) : (s.withPool l r x).early = s.early := (rfl)
@[simp] theorem State.withPool_freeIndex (s : State) (l : Lane) (r : Row) (x : List PoolHit) : (s.withPool l r x).freeIndex = s.freeIndex := (rfl)
@[simp] theorem State.withPool_pending (s : State) (l : Lane) (r : Row) (x : List PoolHit) : (s.withPool l r x).pending = s.pending := (rfl)
@[simp] theorem State.now_withPool (s : State) (l : Lane) (r : Row) (x : List PoolHit) :
    (s.withPool l r x).now = s.now := (rfl)
@[simp] theorem State.siteClock_withPool (s : State) (l : Lane) (r : Row) (x : List PoolHit) :
    (s.withPool l r x).siteClock = s.siteClock := (rfl)
@[simp] theorem State.set_withPool (s : State) (l : Lane) (r : Row) (x : List PoolHit) :
    (s.withPool l r x).set = s.set := (rfl)
@[simp] theorem State.testLane_withPool (s : State) (l : Lane) (r : Row) (x : List PoolHit) :
    (s.withPool l r x).testLane = s.testLane := (rfl)
@[simp] theorem State.channel_withPool (s : State) (l : Lane) (r : Row) (x : List PoolHit) (c' : ChannelId) :
    (s.withPool l r x).channel c' = s.channel c' := (rfl)
@[simp] theorem State.queue_withPool (s : State) (l : Lane) (r : Row) (x : List PoolHit) (l' : Lane) :
    (s.withPool l r x).queue l' = s.queue l' := (rfl)
@[simp] theorem State.context_withPool (s : State) (l : Lane) (r : Row) (x : List PoolHit) (l' : Lane) :
    (s.withPool l r x).context l' = s.context l' := (rfl)
@[simp] theorem State.mode_withPool (s : State) (l : Lane) (r : Row) (x : List PoolHit) (l' : Lane) :
    (s.withPool l r x).mode l' = s.mode l' := (rfl)
@[simp] theorem State.isOccupied_withPool (s : State) (l : Lane) (r : Row) (x : List PoolHit) (l' : Lane) :
    (s.withPool l r x).isOccupied l' = s.isOccupied l' := (rfl)
@[simp] theorem State.port_withPool (s : State) (l : Lane) (r : Row) (x : List PoolHit) (p' : PortId) :
    (s.withPool l r x).port p' = s.port p' := (rfl)
@[simp] theorem State.ringPort_withPool (s : State) (l : Lane) (r : Row) (x : List PoolHit) (p' : PortId) :
    (s.withPool l r x).ringPort p' = s.ringPort p' := (rfl)
@[simp] theorem State.disabled_withPool (s : State) (l : Lane) (r : Row) (x : List PoolHit) (p' : PortId) :
    (s.withPool l r x).disabled p' = s.disabled p' := (rfl)
@[simp] theorem State.withQueue_powered (s : State) (l : Lane) (x : List Crossing) : (s.withQueue l x).powered = s.powered := (rfl)
@[simp] theorem State.withQueue_clock (s : State) (l : Lane) (x : List Crossing) : (s.withQueue l x).clock = s.clock := (rfl)
@[simp] theorem State.withQueue_pins (s : State) (l : Lane) (x : List Crossing) : (s.withQueue l x).pins = s.pins := (rfl)
@[simp] theorem State.withQueue_sfe (s : State) (l : Lane) (x : List Crossing) : (s.withQueue l x).sfe = s.sfe := (rfl)
@[simp] theorem State.withQueue_ptu (s : State) (l : Lane) (x : List Crossing) : (s.withQueue l x).ptu = s.ptu := (rfl)
@[simp] theorem State.withQueue_va (s : State) (l : Lane) (x : List Crossing) : (s.withQueue l x).va = s.va := (rfl)
@[simp] theorem State.withQueue_cle (s : State) (l : Lane) (x : List Crossing) : (s.withQueue l x).cle = s.cle := (rfl)
@[simp] theorem State.withQueue_rr (s : State) (l : Lane) (x : List Crossing) : (s.withQueue l x).rr = s.rr := (rfl)
@[simp] theorem State.withQueue_cc (s : State) (l : Lane) (x : List Crossing) : (s.withQueue l x).cc = s.cc := (rfl)
@[simp] theorem State.withQueue_ltg (s : State) (l : Lane) (x : List Crossing) : (s.withQueue l x).ltg = s.ltg := (rfl)
@[simp] theorem State.withQueue_ports (s : State) (l : Lane) (x : List Crossing) : (s.withQueue l x).ports = s.ports := (rfl)
@[simp] theorem State.withQueue_early (s : State) (l : Lane) (x : List Crossing) : (s.withQueue l x).early = s.early := (rfl)
@[simp] theorem State.withQueue_freeIndex (s : State) (l : Lane) (x : List Crossing) : (s.withQueue l x).freeIndex = s.freeIndex := (rfl)
@[simp] theorem State.withQueue_pending (s : State) (l : Lane) (x : List Crossing) : (s.withQueue l x).pending = s.pending := (rfl)
@[simp] theorem State.now_withQueue (s : State) (l : Lane) (x : List Crossing) :
    (s.withQueue l x).now = s.now := (rfl)
@[simp] theorem State.siteClock_withQueue (s : State) (l : Lane) (x : List Crossing) :
    (s.withQueue l x).siteClock = s.siteClock := (rfl)
@[simp] theorem State.set_withQueue (s : State) (l : Lane) (x : List Crossing) :
    (s.withQueue l x).set = s.set := (rfl)
@[simp] theorem State.testLane_withQueue (s : State) (l : Lane) (x : List Crossing) :
    (s.withQueue l x).testLane = s.testLane := (rfl)
@[simp] theorem State.channel_withQueue (s : State) (l : Lane) (x : List Crossing) (c' : ChannelId) :
    (s.withQueue l x).channel c' = s.channel c' := (rfl)
@[simp] theorem State.pool_withQueue (s : State) (l : Lane) (x : List Crossing) (l' : Lane) (r' : Row) :
    (s.withQueue l x).pool l' r' = s.pool l' r' := (rfl)
@[simp] theorem State.context_withQueue (s : State) (l : Lane) (x : List Crossing) (l' : Lane) :
    (s.withQueue l x).context l' = s.context l' := (rfl)
@[simp] theorem State.mode_withQueue (s : State) (l : Lane) (x : List Crossing) (l' : Lane) :
    (s.withQueue l x).mode l' = s.mode l' := (rfl)
@[simp] theorem State.isOccupied_withQueue (s : State) (l : Lane) (x : List Crossing) (l' : Lane) :
    (s.withQueue l x).isOccupied l' = s.isOccupied l' := (rfl)
@[simp] theorem State.port_withQueue (s : State) (l : Lane) (x : List Crossing) (p' : PortId) :
    (s.withQueue l x).port p' = s.port p' := (rfl)
@[simp] theorem State.ringPort_withQueue (s : State) (l : Lane) (x : List Crossing) (p' : PortId) :
    (s.withQueue l x).ringPort p' = s.ringPort p' := (rfl)
@[simp] theorem State.disabled_withQueue (s : State) (l : Lane) (x : List Crossing) (p' : PortId) :
    (s.withQueue l x).disabled p' = s.disabled p' := (rfl)
@[simp] theorem State.withContext_powered (s : State) (l : Lane) (x : Context) : (s.withContext l x).powered = s.powered := (rfl)
@[simp] theorem State.withContext_clock (s : State) (l : Lane) (x : Context) : (s.withContext l x).clock = s.clock := (rfl)
@[simp] theorem State.withContext_pins (s : State) (l : Lane) (x : Context) : (s.withContext l x).pins = s.pins := (rfl)
@[simp] theorem State.withContext_sfe (s : State) (l : Lane) (x : Context) : (s.withContext l x).sfe = s.sfe := (rfl)
@[simp] theorem State.withContext_xf (s : State) (l : Lane) (x : Context) : (s.withContext l x).xf = s.xf := (rfl)
@[simp] theorem State.withContext_ptu (s : State) (l : Lane) (x : Context) : (s.withContext l x).ptu = s.ptu := (rfl)
@[simp] theorem State.withContext_cle (s : State) (l : Lane) (x : Context) : (s.withContext l x).cle = s.cle := (rfl)
@[simp] theorem State.withContext_rr (s : State) (l : Lane) (x : Context) : (s.withContext l x).rr = s.rr := (rfl)
@[simp] theorem State.withContext_cc (s : State) (l : Lane) (x : Context) : (s.withContext l x).cc = s.cc := (rfl)
@[simp] theorem State.withContext_ltg (s : State) (l : Lane) (x : Context) : (s.withContext l x).ltg = s.ltg := (rfl)
@[simp] theorem State.withContext_ports (s : State) (l : Lane) (x : Context) : (s.withContext l x).ports = s.ports := (rfl)
@[simp] theorem State.withContext_early (s : State) (l : Lane) (x : Context) : (s.withContext l x).early = s.early := (rfl)
@[simp] theorem State.withContext_freeIndex (s : State) (l : Lane) (x : Context) : (s.withContext l x).freeIndex = s.freeIndex := (rfl)
@[simp] theorem State.withContext_pending (s : State) (l : Lane) (x : Context) : (s.withContext l x).pending = s.pending := (rfl)
@[simp] theorem State.now_withContext (s : State) (l : Lane) (x : Context) :
    (s.withContext l x).now = s.now := (rfl)
@[simp] theorem State.siteClock_withContext (s : State) (l : Lane) (x : Context) :
    (s.withContext l x).siteClock = s.siteClock := (rfl)
@[simp] theorem State.set_withContext (s : State) (l : Lane) (x : Context) :
    (s.withContext l x).set = s.set := (rfl)
@[simp] theorem State.testLane_withContext (s : State) (l : Lane) (x : Context) :
    (s.withContext l x).testLane = s.testLane := (rfl)
@[simp] theorem State.channel_withContext (s : State) (l : Lane) (x : Context) (c' : ChannelId) :
    (s.withContext l x).channel c' = s.channel c' := (rfl)
@[simp] theorem State.pool_withContext (s : State) (l : Lane) (x : Context) (l' : Lane) (r' : Row) :
    (s.withContext l x).pool l' r' = s.pool l' r' := (rfl)
@[simp] theorem State.queue_withContext (s : State) (l : Lane) (x : Context) (l' : Lane) :
    (s.withContext l x).queue l' = s.queue l' := (rfl)
@[simp] theorem State.mode_withContext (s : State) (l : Lane) (x : Context) (l' : Lane) :
    (s.withContext l x).mode l' = s.mode l' := (rfl)
@[simp] theorem State.isOccupied_withContext (s : State) (l : Lane) (x : Context) (l' : Lane) :
    (s.withContext l x).isOccupied l' = s.isOccupied l' := (rfl)
@[simp] theorem State.port_withContext (s : State) (l : Lane) (x : Context) (p' : PortId) :
    (s.withContext l x).port p' = s.port p' := (rfl)
@[simp] theorem State.ringPort_withContext (s : State) (l : Lane) (x : Context) (p' : PortId) :
    (s.withContext l x).ringPort p' = s.ringPort p' := (rfl)
@[simp] theorem State.disabled_withContext (s : State) (l : Lane) (x : Context) (p' : PortId) :
    (s.withContext l x).disabled p' = s.disabled p' := (rfl)
@[simp] theorem State.withOccupied_powered (s : State) (l : Lane) (x : Option Time) : (s.withOccupied l x).powered = s.powered := (rfl)
@[simp] theorem State.withOccupied_clock (s : State) (l : Lane) (x : Option Time) : (s.withOccupied l x).clock = s.clock := (rfl)
@[simp] theorem State.withOccupied_pins (s : State) (l : Lane) (x : Option Time) : (s.withOccupied l x).pins = s.pins := (rfl)
@[simp] theorem State.withOccupied_sfe (s : State) (l : Lane) (x : Option Time) : (s.withOccupied l x).sfe = s.sfe := (rfl)
@[simp] theorem State.withOccupied_xf (s : State) (l : Lane) (x : Option Time) : (s.withOccupied l x).xf = s.xf := (rfl)
@[simp] theorem State.withOccupied_ptu (s : State) (l : Lane) (x : Option Time) : (s.withOccupied l x).ptu = s.ptu := (rfl)
@[simp] theorem State.withOccupied_cle (s : State) (l : Lane) (x : Option Time) : (s.withOccupied l x).cle = s.cle := (rfl)
@[simp] theorem State.withOccupied_rr (s : State) (l : Lane) (x : Option Time) : (s.withOccupied l x).rr = s.rr := (rfl)
@[simp] theorem State.withOccupied_cc (s : State) (l : Lane) (x : Option Time) : (s.withOccupied l x).cc = s.cc := (rfl)
@[simp] theorem State.withOccupied_ltg (s : State) (l : Lane) (x : Option Time) : (s.withOccupied l x).ltg = s.ltg := (rfl)
@[simp] theorem State.withOccupied_ports (s : State) (l : Lane) (x : Option Time) : (s.withOccupied l x).ports = s.ports := (rfl)
@[simp] theorem State.withOccupied_early (s : State) (l : Lane) (x : Option Time) : (s.withOccupied l x).early = s.early := (rfl)
@[simp] theorem State.withOccupied_freeIndex (s : State) (l : Lane) (x : Option Time) : (s.withOccupied l x).freeIndex = s.freeIndex := (rfl)
@[simp] theorem State.withOccupied_pending (s : State) (l : Lane) (x : Option Time) : (s.withOccupied l x).pending = s.pending := (rfl)
@[simp] theorem State.now_withOccupied (s : State) (l : Lane) (x : Option Time) :
    (s.withOccupied l x).now = s.now := (rfl)
@[simp] theorem State.siteClock_withOccupied (s : State) (l : Lane) (x : Option Time) :
    (s.withOccupied l x).siteClock = s.siteClock := (rfl)
@[simp] theorem State.set_withOccupied (s : State) (l : Lane) (x : Option Time) :
    (s.withOccupied l x).set = s.set := (rfl)
@[simp] theorem State.testLane_withOccupied (s : State) (l : Lane) (x : Option Time) :
    (s.withOccupied l x).testLane = s.testLane := (rfl)
@[simp] theorem State.channel_withOccupied (s : State) (l : Lane) (x : Option Time) (c' : ChannelId) :
    (s.withOccupied l x).channel c' = s.channel c' := (rfl)
@[simp] theorem State.pool_withOccupied (s : State) (l : Lane) (x : Option Time) (l' : Lane) (r' : Row) :
    (s.withOccupied l x).pool l' r' = s.pool l' r' := (rfl)
@[simp] theorem State.queue_withOccupied (s : State) (l : Lane) (x : Option Time) (l' : Lane) :
    (s.withOccupied l x).queue l' = s.queue l' := (rfl)
@[simp] theorem State.context_withOccupied (s : State) (l : Lane) (x : Option Time) (l' : Lane) :
    (s.withOccupied l x).context l' = s.context l' := (rfl)
@[simp] theorem State.mode_withOccupied (s : State) (l : Lane) (x : Option Time) (l' : Lane) :
    (s.withOccupied l x).mode l' = s.mode l' := (rfl)
@[simp] theorem State.port_withOccupied (s : State) (l : Lane) (x : Option Time) (p' : PortId) :
    (s.withOccupied l x).port p' = s.port p' := (rfl)
@[simp] theorem State.ringPort_withOccupied (s : State) (l : Lane) (x : Option Time) (p' : PortId) :
    (s.withOccupied l x).ringPort p' = s.ringPort p' := (rfl)
@[simp] theorem State.disabled_withOccupied (s : State) (l : Lane) (x : Option Time) (p' : PortId) :
    (s.withOccupied l x).disabled p' = s.disabled p' := (rfl)
@[simp] theorem State.withTrigger_powered (s : State) (l : Lane) (x : Option Time) : (s.withTrigger l x).powered = s.powered := (rfl)
@[simp] theorem State.withTrigger_clock (s : State) (l : Lane) (x : Option Time) : (s.withTrigger l x).clock = s.clock := (rfl)
@[simp] theorem State.withTrigger_pins (s : State) (l : Lane) (x : Option Time) : (s.withTrigger l x).pins = s.pins := (rfl)
@[simp] theorem State.withTrigger_sfe (s : State) (l : Lane) (x : Option Time) : (s.withTrigger l x).sfe = s.sfe := (rfl)
@[simp] theorem State.withTrigger_xf (s : State) (l : Lane) (x : Option Time) : (s.withTrigger l x).xf = s.xf := (rfl)
@[simp] theorem State.withTrigger_ptu (s : State) (l : Lane) (x : Option Time) : (s.withTrigger l x).ptu = s.ptu := (rfl)
@[simp] theorem State.withTrigger_va (s : State) (l : Lane) (x : Option Time) : (s.withTrigger l x).va = s.va := (rfl)
@[simp] theorem State.withTrigger_rr (s : State) (l : Lane) (x : Option Time) : (s.withTrigger l x).rr = s.rr := (rfl)
@[simp] theorem State.withTrigger_cc (s : State) (l : Lane) (x : Option Time) : (s.withTrigger l x).cc = s.cc := (rfl)
@[simp] theorem State.withTrigger_ltg (s : State) (l : Lane) (x : Option Time) : (s.withTrigger l x).ltg = s.ltg := (rfl)
@[simp] theorem State.withTrigger_ports (s : State) (l : Lane) (x : Option Time) : (s.withTrigger l x).ports = s.ports := (rfl)
@[simp] theorem State.withTrigger_early (s : State) (l : Lane) (x : Option Time) : (s.withTrigger l x).early = s.early := (rfl)
@[simp] theorem State.withTrigger_freeIndex (s : State) (l : Lane) (x : Option Time) : (s.withTrigger l x).freeIndex = s.freeIndex := (rfl)
@[simp] theorem State.withTrigger_pending (s : State) (l : Lane) (x : Option Time) : (s.withTrigger l x).pending = s.pending := (rfl)
@[simp] theorem State.now_withTrigger (s : State) (l : Lane) (x : Option Time) :
    (s.withTrigger l x).now = s.now := (rfl)
@[simp] theorem State.siteClock_withTrigger (s : State) (l : Lane) (x : Option Time) :
    (s.withTrigger l x).siteClock = s.siteClock := (rfl)
@[simp] theorem State.set_withTrigger (s : State) (l : Lane) (x : Option Time) :
    (s.withTrigger l x).set = s.set := (rfl)
@[simp] theorem State.testLane_withTrigger (s : State) (l : Lane) (x : Option Time) :
    (s.withTrigger l x).testLane = s.testLane := (rfl)
@[simp] theorem State.channel_withTrigger (s : State) (l : Lane) (x : Option Time) (c' : ChannelId) :
    (s.withTrigger l x).channel c' = s.channel c' := (rfl)
@[simp] theorem State.pool_withTrigger (s : State) (l : Lane) (x : Option Time) (l' : Lane) (r' : Row) :
    (s.withTrigger l x).pool l' r' = s.pool l' r' := (rfl)
@[simp] theorem State.queue_withTrigger (s : State) (l : Lane) (x : Option Time) (l' : Lane) :
    (s.withTrigger l x).queue l' = s.queue l' := (rfl)
@[simp] theorem State.context_withTrigger (s : State) (l : Lane) (x : Option Time) (l' : Lane) :
    (s.withTrigger l x).context l' = s.context l' := (rfl)
@[simp] theorem State.mode_withTrigger (s : State) (l : Lane) (x : Option Time) (l' : Lane) :
    (s.withTrigger l x).mode l' = s.mode l' := (rfl)
@[simp] theorem State.isOccupied_withTrigger (s : State) (l : Lane) (x : Option Time) (l' : Lane) :
    (s.withTrigger l x).isOccupied l' = s.isOccupied l' := (rfl)
@[simp] theorem State.port_withTrigger (s : State) (l : Lane) (x : Option Time) (p' : PortId) :
    (s.withTrigger l x).port p' = s.port p' := (rfl)
@[simp] theorem State.ringPort_withTrigger (s : State) (l : Lane) (x : Option Time) (p' : PortId) :
    (s.withTrigger l x).ringPort p' = s.ringPort p' := (rfl)
@[simp] theorem State.disabled_withTrigger (s : State) (l : Lane) (x : Option Time) (p' : PortId) :
    (s.withTrigger l x).disabled p' = s.disabled p' := (rfl)
@[simp] theorem State.withMode_powered (s : State) (l : Lane) (x : LaneMode) : (s.withMode l x).powered = s.powered := (rfl)
@[simp] theorem State.withMode_clock (s : State) (l : Lane) (x : LaneMode) : (s.withMode l x).clock = s.clock := (rfl)
@[simp] theorem State.withMode_pins (s : State) (l : Lane) (x : LaneMode) : (s.withMode l x).pins = s.pins := (rfl)
@[simp] theorem State.withMode_sfe (s : State) (l : Lane) (x : LaneMode) : (s.withMode l x).sfe = s.sfe := (rfl)
@[simp] theorem State.withMode_xf (s : State) (l : Lane) (x : LaneMode) : (s.withMode l x).xf = s.xf := (rfl)
@[simp] theorem State.withMode_ptu (s : State) (l : Lane) (x : LaneMode) : (s.withMode l x).ptu = s.ptu := (rfl)
@[simp] theorem State.withMode_va (s : State) (l : Lane) (x : LaneMode) : (s.withMode l x).va = s.va := (rfl)
@[simp] theorem State.withMode_cle (s : State) (l : Lane) (x : LaneMode) : (s.withMode l x).cle = s.cle := (rfl)
@[simp] theorem State.withMode_rr (s : State) (l : Lane) (x : LaneMode) : (s.withMode l x).rr = s.rr := (rfl)
@[simp] theorem State.withMode_cc (s : State) (l : Lane) (x : LaneMode) : (s.withMode l x).cc = s.cc := (rfl)
@[simp] theorem State.withMode_ports (s : State) (l : Lane) (x : LaneMode) : (s.withMode l x).ports = s.ports := (rfl)
@[simp] theorem State.withMode_early (s : State) (l : Lane) (x : LaneMode) : (s.withMode l x).early = s.early := (rfl)
@[simp] theorem State.withMode_freeIndex (s : State) (l : Lane) (x : LaneMode) : (s.withMode l x).freeIndex = s.freeIndex := (rfl)
@[simp] theorem State.withMode_pending (s : State) (l : Lane) (x : LaneMode) : (s.withMode l x).pending = s.pending := (rfl)
@[simp] theorem State.now_withMode (s : State) (l : Lane) (x : LaneMode) :
    (s.withMode l x).now = s.now := (rfl)
@[simp] theorem State.siteClock_withMode (s : State) (l : Lane) (x : LaneMode) :
    (s.withMode l x).siteClock = s.siteClock := (rfl)
@[simp] theorem State.set_withMode (s : State) (l : Lane) (x : LaneMode) :
    (s.withMode l x).set = s.set := (rfl)
@[simp] theorem State.testLane_withMode (s : State) (l : Lane) (x : LaneMode) :
    (s.withMode l x).testLane = s.testLane := (rfl)
@[simp] theorem State.channel_withMode (s : State) (l : Lane) (x : LaneMode) (c' : ChannelId) :
    (s.withMode l x).channel c' = s.channel c' := (rfl)
@[simp] theorem State.pool_withMode (s : State) (l : Lane) (x : LaneMode) (l' : Lane) (r' : Row) :
    (s.withMode l x).pool l' r' = s.pool l' r' := (rfl)
@[simp] theorem State.queue_withMode (s : State) (l : Lane) (x : LaneMode) (l' : Lane) :
    (s.withMode l x).queue l' = s.queue l' := (rfl)
@[simp] theorem State.context_withMode (s : State) (l : Lane) (x : LaneMode) (l' : Lane) :
    (s.withMode l x).context l' = s.context l' := (rfl)
@[simp] theorem State.isOccupied_withMode (s : State) (l : Lane) (x : LaneMode) (l' : Lane) :
    (s.withMode l x).isOccupied l' = s.isOccupied l' := (rfl)
@[simp] theorem State.port_withMode (s : State) (l : Lane) (x : LaneMode) (p' : PortId) :
    (s.withMode l x).port p' = s.port p' := (rfl)
@[simp] theorem State.ringPort_withMode (s : State) (l : Lane) (x : LaneMode) (p' : PortId) :
    (s.withMode l x).ringPort p' = s.ringPort p' := (rfl)
@[simp] theorem State.disabled_withMode (s : State) (l : Lane) (x : LaneMode) (p' : PortId) :
    (s.withMode l x).disabled p' = s.disabled p' := (rfl)
@[simp] theorem State.withPort_powered (s : State) (p : PortId) (x : Port) : (s.withPort p x).powered = s.powered := (rfl)
@[simp] theorem State.withPort_clock (s : State) (p : PortId) (x : Port) : (s.withPort p x).clock = s.clock := (rfl)
@[simp] theorem State.withPort_pins (s : State) (p : PortId) (x : Port) : (s.withPort p x).pins = s.pins := (rfl)
@[simp] theorem State.withPort_sfe (s : State) (p : PortId) (x : Port) : (s.withPort p x).sfe = s.sfe := (rfl)
@[simp] theorem State.withPort_xf (s : State) (p : PortId) (x : Port) : (s.withPort p x).xf = s.xf := (rfl)
@[simp] theorem State.withPort_ptu (s : State) (p : PortId) (x : Port) : (s.withPort p x).ptu = s.ptu := (rfl)
@[simp] theorem State.withPort_va (s : State) (p : PortId) (x : Port) : (s.withPort p x).va = s.va := (rfl)
@[simp] theorem State.withPort_cle (s : State) (p : PortId) (x : Port) : (s.withPort p x).cle = s.cle := (rfl)
@[simp] theorem State.withPort_rr (s : State) (p : PortId) (x : Port) : (s.withPort p x).rr = s.rr := (rfl)
@[simp] theorem State.withPort_cc (s : State) (p : PortId) (x : Port) : (s.withPort p x).cc = s.cc := (rfl)
@[simp] theorem State.withPort_ltg (s : State) (p : PortId) (x : Port) : (s.withPort p x).ltg = s.ltg := (rfl)
@[simp] theorem State.withPort_early (s : State) (p : PortId) (x : Port) : (s.withPort p x).early = s.early := (rfl)
@[simp] theorem State.withPort_freeIndex (s : State) (p : PortId) (x : Port) : (s.withPort p x).freeIndex = s.freeIndex := (rfl)
@[simp] theorem State.withPort_pending (s : State) (p : PortId) (x : Port) : (s.withPort p x).pending = s.pending := (rfl)
@[simp] theorem State.now_withPort (s : State) (p : PortId) (x : Port) :
    (s.withPort p x).now = s.now := (rfl)
@[simp] theorem State.siteClock_withPort (s : State) (p : PortId) (x : Port) :
    (s.withPort p x).siteClock = s.siteClock := (rfl)
@[simp] theorem State.set_withPort (s : State) (p : PortId) (x : Port) :
    (s.withPort p x).set = s.set := (rfl)
@[simp] theorem State.testLane_withPort (s : State) (p : PortId) (x : Port) :
    (s.withPort p x).testLane = s.testLane := (rfl)
@[simp] theorem State.channel_withPort (s : State) (p : PortId) (x : Port) (c' : ChannelId) :
    (s.withPort p x).channel c' = s.channel c' := (rfl)
@[simp] theorem State.pool_withPort (s : State) (p : PortId) (x : Port) (l' : Lane) (r' : Row) :
    (s.withPort p x).pool l' r' = s.pool l' r' := (rfl)
@[simp] theorem State.queue_withPort (s : State) (p : PortId) (x : Port) (l' : Lane) :
    (s.withPort p x).queue l' = s.queue l' := (rfl)
@[simp] theorem State.context_withPort (s : State) (p : PortId) (x : Port) (l' : Lane) :
    (s.withPort p x).context l' = s.context l' := (rfl)
@[simp] theorem State.mode_withPort (s : State) (p : PortId) (x : Port) (l' : Lane) :
    (s.withPort p x).mode l' = s.mode l' := (rfl)
@[simp] theorem State.isOccupied_withPort (s : State) (p : PortId) (x : Port) (l' : Lane) :
    (s.withPort p x).isOccupied l' = s.isOccupied l' := (rfl)
@[simp] theorem State.ringPort_withPort (s : State) (p : PortId) (x : Port) (p' : PortId) :
    (s.withPort p x).ringPort p' = s.ringPort p' := (rfl)
@[simp] theorem State.withRingPort_powered (s : State) (p : PortId) (x : RingPort) : (s.withRingPort p x).powered = s.powered := (rfl)
@[simp] theorem State.withRingPort_clock (s : State) (p : PortId) (x : RingPort) : (s.withRingPort p x).clock = s.clock := (rfl)
@[simp] theorem State.withRingPort_pins (s : State) (p : PortId) (x : RingPort) : (s.withRingPort p x).pins = s.pins := (rfl)
@[simp] theorem State.withRingPort_sfe (s : State) (p : PortId) (x : RingPort) : (s.withRingPort p x).sfe = s.sfe := (rfl)
@[simp] theorem State.withRingPort_xf (s : State) (p : PortId) (x : RingPort) : (s.withRingPort p x).xf = s.xf := (rfl)
@[simp] theorem State.withRingPort_ptu (s : State) (p : PortId) (x : RingPort) : (s.withRingPort p x).ptu = s.ptu := (rfl)
@[simp] theorem State.withRingPort_va (s : State) (p : PortId) (x : RingPort) : (s.withRingPort p x).va = s.va := (rfl)
@[simp] theorem State.withRingPort_cle (s : State) (p : PortId) (x : RingPort) : (s.withRingPort p x).cle = s.cle := (rfl)
@[simp] theorem State.withRingPort_cc (s : State) (p : PortId) (x : RingPort) : (s.withRingPort p x).cc = s.cc := (rfl)
@[simp] theorem State.withRingPort_ltg (s : State) (p : PortId) (x : RingPort) : (s.withRingPort p x).ltg = s.ltg := (rfl)
@[simp] theorem State.withRingPort_ports (s : State) (p : PortId) (x : RingPort) : (s.withRingPort p x).ports = s.ports := (rfl)
@[simp] theorem State.withRingPort_early (s : State) (p : PortId) (x : RingPort) : (s.withRingPort p x).early = s.early := (rfl)
@[simp] theorem State.withRingPort_freeIndex (s : State) (p : PortId) (x : RingPort) : (s.withRingPort p x).freeIndex = s.freeIndex := (rfl)
@[simp] theorem State.withRingPort_pending (s : State) (p : PortId) (x : RingPort) : (s.withRingPort p x).pending = s.pending := (rfl)
@[simp] theorem State.now_withRingPort (s : State) (p : PortId) (x : RingPort) :
    (s.withRingPort p x).now = s.now := (rfl)
@[simp] theorem State.siteClock_withRingPort (s : State) (p : PortId) (x : RingPort) :
    (s.withRingPort p x).siteClock = s.siteClock := (rfl)
@[simp] theorem State.set_withRingPort (s : State) (p : PortId) (x : RingPort) :
    (s.withRingPort p x).set = s.set := (rfl)
@[simp] theorem State.testLane_withRingPort (s : State) (p : PortId) (x : RingPort) :
    (s.withRingPort p x).testLane = s.testLane := (rfl)
@[simp] theorem State.channel_withRingPort (s : State) (p : PortId) (x : RingPort) (c' : ChannelId) :
    (s.withRingPort p x).channel c' = s.channel c' := (rfl)
@[simp] theorem State.pool_withRingPort (s : State) (p : PortId) (x : RingPort) (l' : Lane) (r' : Row) :
    (s.withRingPort p x).pool l' r' = s.pool l' r' := (rfl)
@[simp] theorem State.queue_withRingPort (s : State) (p : PortId) (x : RingPort) (l' : Lane) :
    (s.withRingPort p x).queue l' = s.queue l' := (rfl)
@[simp] theorem State.context_withRingPort (s : State) (p : PortId) (x : RingPort) (l' : Lane) :
    (s.withRingPort p x).context l' = s.context l' := (rfl)
@[simp] theorem State.mode_withRingPort (s : State) (p : PortId) (x : RingPort) (l' : Lane) :
    (s.withRingPort p x).mode l' = s.mode l' := (rfl)
@[simp] theorem State.isOccupied_withRingPort (s : State) (p : PortId) (x : RingPort) (l' : Lane) :
    (s.withRingPort p x).isOccupied l' = s.isOccupied l' := (rfl)
@[simp] theorem State.port_withRingPort (s : State) (p : PortId) (x : RingPort) (p' : PortId) :
    (s.withRingPort p x).port p' = s.port p' := (rfl)
@[simp] theorem State.disabled_withRingPort (s : State) (p : PortId) (x : RingPort) (p' : PortId) :
    (s.withRingPort p x).disabled p' = s.disabled p' := (rfl)
@[simp] theorem State.withPresence_powered (s : State) (l : Lane) (x : Bool) : (s.withPresence l x).powered = s.powered := (rfl)
@[simp] theorem State.withPresence_clock (s : State) (l : Lane) (x : Bool) : (s.withPresence l x).clock = s.clock := (rfl)
@[simp] theorem State.withPresence_sfe (s : State) (l : Lane) (x : Bool) : (s.withPresence l x).sfe = s.sfe := (rfl)
@[simp] theorem State.withPresence_xf (s : State) (l : Lane) (x : Bool) : (s.withPresence l x).xf = s.xf := (rfl)
@[simp] theorem State.withPresence_ptu (s : State) (l : Lane) (x : Bool) : (s.withPresence l x).ptu = s.ptu := (rfl)
@[simp] theorem State.withPresence_va (s : State) (l : Lane) (x : Bool) : (s.withPresence l x).va = s.va := (rfl)
@[simp] theorem State.withPresence_cle (s : State) (l : Lane) (x : Bool) : (s.withPresence l x).cle = s.cle := (rfl)
@[simp] theorem State.withPresence_rr (s : State) (l : Lane) (x : Bool) : (s.withPresence l x).rr = s.rr := (rfl)
@[simp] theorem State.withPresence_cc (s : State) (l : Lane) (x : Bool) : (s.withPresence l x).cc = s.cc := (rfl)
@[simp] theorem State.withPresence_ltg (s : State) (l : Lane) (x : Bool) : (s.withPresence l x).ltg = s.ltg := (rfl)
@[simp] theorem State.withPresence_ports (s : State) (l : Lane) (x : Bool) : (s.withPresence l x).ports = s.ports := (rfl)
@[simp] theorem State.withPresence_early (s : State) (l : Lane) (x : Bool) : (s.withPresence l x).early = s.early := (rfl)
@[simp] theorem State.withPresence_freeIndex (s : State) (l : Lane) (x : Bool) : (s.withPresence l x).freeIndex = s.freeIndex := (rfl)
@[simp] theorem State.withPresence_pending (s : State) (l : Lane) (x : Bool) : (s.withPresence l x).pending = s.pending := (rfl)
@[simp] theorem State.now_withPresence (s : State) (l : Lane) (x : Bool) :
    (s.withPresence l x).now = s.now := (rfl)
@[simp] theorem State.siteClock_withPresence (s : State) (l : Lane) (x : Bool) :
    (s.withPresence l x).siteClock = s.siteClock := (rfl)
@[simp] theorem State.set_withPresence (s : State) (l : Lane) (x : Bool) :
    (s.withPresence l x).set = s.set := (rfl)
@[simp] theorem State.testLane_withPresence (s : State) (l : Lane) (x : Bool) :
    (s.withPresence l x).testLane = s.testLane := (rfl)
@[simp] theorem State.channel_withPresence (s : State) (l : Lane) (x : Bool) (c' : ChannelId) :
    (s.withPresence l x).channel c' = s.channel c' := (rfl)
@[simp] theorem State.pool_withPresence (s : State) (l : Lane) (x : Bool) (l' : Lane) (r' : Row) :
    (s.withPresence l x).pool l' r' = s.pool l' r' := (rfl)
@[simp] theorem State.queue_withPresence (s : State) (l : Lane) (x : Bool) (l' : Lane) :
    (s.withPresence l x).queue l' = s.queue l' := (rfl)
@[simp] theorem State.context_withPresence (s : State) (l : Lane) (x : Bool) (l' : Lane) :
    (s.withPresence l x).context l' = s.context l' := (rfl)
@[simp] theorem State.mode_withPresence (s : State) (l : Lane) (x : Bool) (l' : Lane) :
    (s.withPresence l x).mode l' = s.mode l' := (rfl)
@[simp] theorem State.isOccupied_withPresence (s : State) (l : Lane) (x : Bool) (l' : Lane) :
    (s.withPresence l x).isOccupied l' = s.isOccupied l' := (rfl)
@[simp] theorem State.port_withPresence (s : State) (l : Lane) (x : Bool) (p' : PortId) :
    (s.withPresence l x).port p' = s.port p' := (rfl)
@[simp] theorem State.ringPort_withPresence (s : State) (l : Lane) (x : Bool) (p' : PortId) :
    (s.withPresence l x).ringPort p' = s.ringPort p' := (rfl)
@[simp] theorem State.disabled_withPresence (s : State) (l : Lane) (x : Bool) (p' : PortId) :
    (s.withPresence l x).disabled p' = s.disabled p' := (rfl)
@[simp] theorem State.countNoise_powered (s : State) (l : Lane) : (s.countNoise l).powered = s.powered := (rfl)
@[simp] theorem State.countNoise_clock (s : State) (l : Lane) : (s.countNoise l).clock = s.clock := (rfl)
@[simp] theorem State.countNoise_pins (s : State) (l : Lane) : (s.countNoise l).pins = s.pins := (rfl)
@[simp] theorem State.countNoise_xf (s : State) (l : Lane) : (s.countNoise l).xf = s.xf := (rfl)
@[simp] theorem State.countNoise_ptu (s : State) (l : Lane) : (s.countNoise l).ptu = s.ptu := (rfl)
@[simp] theorem State.countNoise_va (s : State) (l : Lane) : (s.countNoise l).va = s.va := (rfl)
@[simp] theorem State.countNoise_cle (s : State) (l : Lane) : (s.countNoise l).cle = s.cle := (rfl)
@[simp] theorem State.countNoise_rr (s : State) (l : Lane) : (s.countNoise l).rr = s.rr := (rfl)
@[simp] theorem State.countNoise_cc (s : State) (l : Lane) : (s.countNoise l).cc = s.cc := (rfl)
@[simp] theorem State.countNoise_ltg (s : State) (l : Lane) : (s.countNoise l).ltg = s.ltg := (rfl)
@[simp] theorem State.countNoise_ports (s : State) (l : Lane) : (s.countNoise l).ports = s.ports := (rfl)
@[simp] theorem State.countNoise_early (s : State) (l : Lane) : (s.countNoise l).early = s.early := (rfl)
@[simp] theorem State.countNoise_freeIndex (s : State) (l : Lane) : (s.countNoise l).freeIndex = s.freeIndex := (rfl)
@[simp] theorem State.countNoise_pending (s : State) (l : Lane) : (s.countNoise l).pending = s.pending := (rfl)
@[simp] theorem State.now_countNoise (s : State) (l : Lane) :
    (s.countNoise l).now = s.now := (rfl)
@[simp] theorem State.siteClock_countNoise (s : State) (l : Lane) :
    (s.countNoise l).siteClock = s.siteClock := (rfl)
@[simp] theorem State.set_countNoise (s : State) (l : Lane) :
    (s.countNoise l).set = s.set := (rfl)
@[simp] theorem State.testLane_countNoise (s : State) (l : Lane) :
    (s.countNoise l).testLane = s.testLane := (rfl)
@[simp] theorem State.channel_countNoise (s : State) (l : Lane) (c' : ChannelId) :
    (s.countNoise l).channel c' = s.channel c' := (rfl)
@[simp] theorem State.pool_countNoise (s : State) (l : Lane) (l' : Lane) (r' : Row) :
    (s.countNoise l).pool l' r' = s.pool l' r' := (rfl)
@[simp] theorem State.queue_countNoise (s : State) (l : Lane) (l' : Lane) :
    (s.countNoise l).queue l' = s.queue l' := (rfl)
@[simp] theorem State.context_countNoise (s : State) (l : Lane) (l' : Lane) :
    (s.countNoise l).context l' = s.context l' := (rfl)
@[simp] theorem State.mode_countNoise (s : State) (l : Lane) (l' : Lane) :
    (s.countNoise l).mode l' = s.mode l' := (rfl)
@[simp] theorem State.isOccupied_countNoise (s : State) (l : Lane) (l' : Lane) :
    (s.countNoise l).isOccupied l' = s.isOccupied l' := (rfl)
@[simp] theorem State.port_countNoise (s : State) (l : Lane) (p' : PortId) :
    (s.countNoise l).port p' = s.port p' := (rfl)
@[simp] theorem State.ringPort_countNoise (s : State) (l : Lane) (p' : PortId) :
    (s.countNoise l).ringPort p' = s.ringPort p' := (rfl)
@[simp] theorem State.disabled_countNoise (s : State) (l : Lane) (p' : PortId) :
    (s.countNoise l).disabled p' = s.disabled p' := (rfl)
@[simp] theorem State.countHeld_powered (s : State) (l : Lane) : (s.countHeld l).powered = s.powered := (rfl)
@[simp] theorem State.countHeld_clock (s : State) (l : Lane) : (s.countHeld l).clock = s.clock := (rfl)
@[simp] theorem State.countHeld_pins (s : State) (l : Lane) : (s.countHeld l).pins = s.pins := (rfl)
@[simp] theorem State.countHeld_xf (s : State) (l : Lane) : (s.countHeld l).xf = s.xf := (rfl)
@[simp] theorem State.countHeld_ptu (s : State) (l : Lane) : (s.countHeld l).ptu = s.ptu := (rfl)
@[simp] theorem State.countHeld_va (s : State) (l : Lane) : (s.countHeld l).va = s.va := (rfl)
@[simp] theorem State.countHeld_cle (s : State) (l : Lane) : (s.countHeld l).cle = s.cle := (rfl)
@[simp] theorem State.countHeld_rr (s : State) (l : Lane) : (s.countHeld l).rr = s.rr := (rfl)
@[simp] theorem State.countHeld_cc (s : State) (l : Lane) : (s.countHeld l).cc = s.cc := (rfl)
@[simp] theorem State.countHeld_ltg (s : State) (l : Lane) : (s.countHeld l).ltg = s.ltg := (rfl)
@[simp] theorem State.countHeld_ports (s : State) (l : Lane) : (s.countHeld l).ports = s.ports := (rfl)
@[simp] theorem State.countHeld_early (s : State) (l : Lane) : (s.countHeld l).early = s.early := (rfl)
@[simp] theorem State.countHeld_freeIndex (s : State) (l : Lane) : (s.countHeld l).freeIndex = s.freeIndex := (rfl)
@[simp] theorem State.countHeld_pending (s : State) (l : Lane) : (s.countHeld l).pending = s.pending := (rfl)
@[simp] theorem State.now_countHeld (s : State) (l : Lane) :
    (s.countHeld l).now = s.now := (rfl)
@[simp] theorem State.siteClock_countHeld (s : State) (l : Lane) :
    (s.countHeld l).siteClock = s.siteClock := (rfl)
@[simp] theorem State.set_countHeld (s : State) (l : Lane) :
    (s.countHeld l).set = s.set := (rfl)
@[simp] theorem State.testLane_countHeld (s : State) (l : Lane) :
    (s.countHeld l).testLane = s.testLane := (rfl)
@[simp] theorem State.channel_countHeld (s : State) (l : Lane) (c' : ChannelId) :
    (s.countHeld l).channel c' = s.channel c' := (rfl)
@[simp] theorem State.pool_countHeld (s : State) (l : Lane) (l' : Lane) (r' : Row) :
    (s.countHeld l).pool l' r' = s.pool l' r' := (rfl)
@[simp] theorem State.queue_countHeld (s : State) (l : Lane) (l' : Lane) :
    (s.countHeld l).queue l' = s.queue l' := (rfl)
@[simp] theorem State.context_countHeld (s : State) (l : Lane) (l' : Lane) :
    (s.countHeld l).context l' = s.context l' := (rfl)
@[simp] theorem State.mode_countHeld (s : State) (l : Lane) (l' : Lane) :
    (s.countHeld l).mode l' = s.mode l' := (rfl)
@[simp] theorem State.isOccupied_countHeld (s : State) (l : Lane) (l' : Lane) :
    (s.countHeld l).isOccupied l' = s.isOccupied l' := (rfl)
@[simp] theorem State.port_countHeld (s : State) (l : Lane) (p' : PortId) :
    (s.countHeld l).port p' = s.port p' := (rfl)
@[simp] theorem State.ringPort_countHeld (s : State) (l : Lane) (p' : PortId) :
    (s.countHeld l).ringPort p' = s.ringPort p' := (rfl)
@[simp] theorem State.disabled_countHeld (s : State) (l : Lane) (p' : PortId) :
    (s.countHeld l).disabled p' = s.disabled p' := (rfl)
@[simp] theorem State.countOrphanA_powered (s : State) (l : Lane) : (s.countOrphanA l).powered = s.powered := (rfl)
@[simp] theorem State.countOrphanA_clock (s : State) (l : Lane) : (s.countOrphanA l).clock = s.clock := (rfl)
@[simp] theorem State.countOrphanA_pins (s : State) (l : Lane) : (s.countOrphanA l).pins = s.pins := (rfl)
@[simp] theorem State.countOrphanA_sfe (s : State) (l : Lane) : (s.countOrphanA l).sfe = s.sfe := (rfl)
@[simp] theorem State.countOrphanA_ptu (s : State) (l : Lane) : (s.countOrphanA l).ptu = s.ptu := (rfl)
@[simp] theorem State.countOrphanA_va (s : State) (l : Lane) : (s.countOrphanA l).va = s.va := (rfl)
@[simp] theorem State.countOrphanA_cle (s : State) (l : Lane) : (s.countOrphanA l).cle = s.cle := (rfl)
@[simp] theorem State.countOrphanA_rr (s : State) (l : Lane) : (s.countOrphanA l).rr = s.rr := (rfl)
@[simp] theorem State.countOrphanA_cc (s : State) (l : Lane) : (s.countOrphanA l).cc = s.cc := (rfl)
@[simp] theorem State.countOrphanA_ltg (s : State) (l : Lane) : (s.countOrphanA l).ltg = s.ltg := (rfl)
@[simp] theorem State.countOrphanA_ports (s : State) (l : Lane) : (s.countOrphanA l).ports = s.ports := (rfl)
@[simp] theorem State.countOrphanA_early (s : State) (l : Lane) : (s.countOrphanA l).early = s.early := (rfl)
@[simp] theorem State.countOrphanA_freeIndex (s : State) (l : Lane) : (s.countOrphanA l).freeIndex = s.freeIndex := (rfl)
@[simp] theorem State.countOrphanA_pending (s : State) (l : Lane) : (s.countOrphanA l).pending = s.pending := (rfl)
@[simp] theorem State.now_countOrphanA (s : State) (l : Lane) :
    (s.countOrphanA l).now = s.now := (rfl)
@[simp] theorem State.siteClock_countOrphanA (s : State) (l : Lane) :
    (s.countOrphanA l).siteClock = s.siteClock := (rfl)
@[simp] theorem State.set_countOrphanA (s : State) (l : Lane) :
    (s.countOrphanA l).set = s.set := (rfl)
@[simp] theorem State.testLane_countOrphanA (s : State) (l : Lane) :
    (s.countOrphanA l).testLane = s.testLane := (rfl)
@[simp] theorem State.channel_countOrphanA (s : State) (l : Lane) (c' : ChannelId) :
    (s.countOrphanA l).channel c' = s.channel c' := (rfl)
@[simp] theorem State.pool_countOrphanA (s : State) (l : Lane) (l' : Lane) (r' : Row) :
    (s.countOrphanA l).pool l' r' = s.pool l' r' := (rfl)
@[simp] theorem State.queue_countOrphanA (s : State) (l : Lane) (l' : Lane) :
    (s.countOrphanA l).queue l' = s.queue l' := (rfl)
@[simp] theorem State.context_countOrphanA (s : State) (l : Lane) (l' : Lane) :
    (s.countOrphanA l).context l' = s.context l' := (rfl)
@[simp] theorem State.mode_countOrphanA (s : State) (l : Lane) (l' : Lane) :
    (s.countOrphanA l).mode l' = s.mode l' := (rfl)
@[simp] theorem State.isOccupied_countOrphanA (s : State) (l : Lane) (l' : Lane) :
    (s.countOrphanA l).isOccupied l' = s.isOccupied l' := (rfl)
@[simp] theorem State.port_countOrphanA (s : State) (l : Lane) (p' : PortId) :
    (s.countOrphanA l).port p' = s.port p' := (rfl)
@[simp] theorem State.ringPort_countOrphanA (s : State) (l : Lane) (p' : PortId) :
    (s.countOrphanA l).ringPort p' = s.ringPort p' := (rfl)
@[simp] theorem State.disabled_countOrphanA (s : State) (l : Lane) (p' : PortId) :
    (s.countOrphanA l).disabled p' = s.disabled p' := (rfl)
@[simp] theorem State.countOrphanB_powered (s : State) (l : Lane) : (s.countOrphanB l).powered = s.powered := (rfl)
@[simp] theorem State.countOrphanB_clock (s : State) (l : Lane) : (s.countOrphanB l).clock = s.clock := (rfl)
@[simp] theorem State.countOrphanB_pins (s : State) (l : Lane) : (s.countOrphanB l).pins = s.pins := (rfl)
@[simp] theorem State.countOrphanB_sfe (s : State) (l : Lane) : (s.countOrphanB l).sfe = s.sfe := (rfl)
@[simp] theorem State.countOrphanB_ptu (s : State) (l : Lane) : (s.countOrphanB l).ptu = s.ptu := (rfl)
@[simp] theorem State.countOrphanB_va (s : State) (l : Lane) : (s.countOrphanB l).va = s.va := (rfl)
@[simp] theorem State.countOrphanB_cle (s : State) (l : Lane) : (s.countOrphanB l).cle = s.cle := (rfl)
@[simp] theorem State.countOrphanB_rr (s : State) (l : Lane) : (s.countOrphanB l).rr = s.rr := (rfl)
@[simp] theorem State.countOrphanB_cc (s : State) (l : Lane) : (s.countOrphanB l).cc = s.cc := (rfl)
@[simp] theorem State.countOrphanB_ltg (s : State) (l : Lane) : (s.countOrphanB l).ltg = s.ltg := (rfl)
@[simp] theorem State.countOrphanB_ports (s : State) (l : Lane) : (s.countOrphanB l).ports = s.ports := (rfl)
@[simp] theorem State.countOrphanB_early (s : State) (l : Lane) : (s.countOrphanB l).early = s.early := (rfl)
@[simp] theorem State.countOrphanB_freeIndex (s : State) (l : Lane) : (s.countOrphanB l).freeIndex = s.freeIndex := (rfl)
@[simp] theorem State.countOrphanB_pending (s : State) (l : Lane) : (s.countOrphanB l).pending = s.pending := (rfl)
@[simp] theorem State.now_countOrphanB (s : State) (l : Lane) :
    (s.countOrphanB l).now = s.now := (rfl)
@[simp] theorem State.siteClock_countOrphanB (s : State) (l : Lane) :
    (s.countOrphanB l).siteClock = s.siteClock := (rfl)
@[simp] theorem State.set_countOrphanB (s : State) (l : Lane) :
    (s.countOrphanB l).set = s.set := (rfl)
@[simp] theorem State.testLane_countOrphanB (s : State) (l : Lane) :
    (s.countOrphanB l).testLane = s.testLane := (rfl)
@[simp] theorem State.channel_countOrphanB (s : State) (l : Lane) (c' : ChannelId) :
    (s.countOrphanB l).channel c' = s.channel c' := (rfl)
@[simp] theorem State.pool_countOrphanB (s : State) (l : Lane) (l' : Lane) (r' : Row) :
    (s.countOrphanB l).pool l' r' = s.pool l' r' := (rfl)
@[simp] theorem State.queue_countOrphanB (s : State) (l : Lane) (l' : Lane) :
    (s.countOrphanB l).queue l' = s.queue l' := (rfl)
@[simp] theorem State.context_countOrphanB (s : State) (l : Lane) (l' : Lane) :
    (s.countOrphanB l).context l' = s.context l' := (rfl)
@[simp] theorem State.mode_countOrphanB (s : State) (l : Lane) (l' : Lane) :
    (s.countOrphanB l).mode l' = s.mode l' := (rfl)
@[simp] theorem State.isOccupied_countOrphanB (s : State) (l : Lane) (l' : Lane) :
    (s.countOrphanB l).isOccupied l' = s.isOccupied l' := (rfl)
@[simp] theorem State.port_countOrphanB (s : State) (l : Lane) (p' : PortId) :
    (s.countOrphanB l).port p' = s.port p' := (rfl)
@[simp] theorem State.ringPort_countOrphanB (s : State) (l : Lane) (p' : PortId) :
    (s.countOrphanB l).ringPort p' = s.ringPort p' := (rfl)
@[simp] theorem State.disabled_countOrphanB (s : State) (l : Lane) (p' : PortId) :
    (s.countOrphanB l).disabled p' = s.disabled p' := (rfl)
@[simp] theorem State.countGhost_powered (s : State) (l : Lane) : (s.countGhost l).powered = s.powered := (rfl)
@[simp] theorem State.countGhost_clock (s : State) (l : Lane) : (s.countGhost l).clock = s.clock := (rfl)
@[simp] theorem State.countGhost_pins (s : State) (l : Lane) : (s.countGhost l).pins = s.pins := (rfl)
@[simp] theorem State.countGhost_sfe (s : State) (l : Lane) : (s.countGhost l).sfe = s.sfe := (rfl)
@[simp] theorem State.countGhost_xf (s : State) (l : Lane) : (s.countGhost l).xf = s.xf := (rfl)
@[simp] theorem State.countGhost_ptu (s : State) (l : Lane) : (s.countGhost l).ptu = s.ptu := (rfl)
@[simp] theorem State.countGhost_cle (s : State) (l : Lane) : (s.countGhost l).cle = s.cle := (rfl)
@[simp] theorem State.countGhost_rr (s : State) (l : Lane) : (s.countGhost l).rr = s.rr := (rfl)
@[simp] theorem State.countGhost_cc (s : State) (l : Lane) : (s.countGhost l).cc = s.cc := (rfl)
@[simp] theorem State.countGhost_ltg (s : State) (l : Lane) : (s.countGhost l).ltg = s.ltg := (rfl)
@[simp] theorem State.countGhost_ports (s : State) (l : Lane) : (s.countGhost l).ports = s.ports := (rfl)
@[simp] theorem State.countGhost_early (s : State) (l : Lane) : (s.countGhost l).early = s.early := (rfl)
@[simp] theorem State.countGhost_freeIndex (s : State) (l : Lane) : (s.countGhost l).freeIndex = s.freeIndex := (rfl)
@[simp] theorem State.countGhost_pending (s : State) (l : Lane) : (s.countGhost l).pending = s.pending := (rfl)
@[simp] theorem State.now_countGhost (s : State) (l : Lane) :
    (s.countGhost l).now = s.now := (rfl)
@[simp] theorem State.siteClock_countGhost (s : State) (l : Lane) :
    (s.countGhost l).siteClock = s.siteClock := (rfl)
@[simp] theorem State.set_countGhost (s : State) (l : Lane) :
    (s.countGhost l).set = s.set := (rfl)
@[simp] theorem State.testLane_countGhost (s : State) (l : Lane) :
    (s.countGhost l).testLane = s.testLane := (rfl)
@[simp] theorem State.channel_countGhost (s : State) (l : Lane) (c' : ChannelId) :
    (s.countGhost l).channel c' = s.channel c' := (rfl)
@[simp] theorem State.pool_countGhost (s : State) (l : Lane) (l' : Lane) (r' : Row) :
    (s.countGhost l).pool l' r' = s.pool l' r' := (rfl)
@[simp] theorem State.queue_countGhost (s : State) (l : Lane) (l' : Lane) :
    (s.countGhost l).queue l' = s.queue l' := (rfl)
@[simp] theorem State.context_countGhost (s : State) (l : Lane) (l' : Lane) :
    (s.countGhost l).context l' = s.context l' := (rfl)
@[simp] theorem State.mode_countGhost (s : State) (l : Lane) (l' : Lane) :
    (s.countGhost l).mode l' = s.mode l' := (rfl)
@[simp] theorem State.isOccupied_countGhost (s : State) (l : Lane) (l' : Lane) :
    (s.countGhost l).isOccupied l' = s.isOccupied l' := (rfl)
@[simp] theorem State.port_countGhost (s : State) (l : Lane) (p' : PortId) :
    (s.countGhost l).port p' = s.port p' := (rfl)
@[simp] theorem State.ringPort_countGhost (s : State) (l : Lane) (p' : PortId) :
    (s.countGhost l).ringPort p' = s.ringPort p' := (rfl)
@[simp] theorem State.disabled_countGhost (s : State) (l : Lane) (p' : PortId) :
    (s.countGhost l).disabled p' = s.disabled p' := (rfl)
@[simp] theorem State.countTrigger_powered (s : State) (l : Lane) : (s.countTrigger l).powered = s.powered := (rfl)
@[simp] theorem State.countTrigger_clock (s : State) (l : Lane) : (s.countTrigger l).clock = s.clock := (rfl)
@[simp] theorem State.countTrigger_pins (s : State) (l : Lane) : (s.countTrigger l).pins = s.pins := (rfl)
@[simp] theorem State.countTrigger_sfe (s : State) (l : Lane) : (s.countTrigger l).sfe = s.sfe := (rfl)
@[simp] theorem State.countTrigger_xf (s : State) (l : Lane) : (s.countTrigger l).xf = s.xf := (rfl)
@[simp] theorem State.countTrigger_ptu (s : State) (l : Lane) : (s.countTrigger l).ptu = s.ptu := (rfl)
@[simp] theorem State.countTrigger_va (s : State) (l : Lane) : (s.countTrigger l).va = s.va := (rfl)
@[simp] theorem State.countTrigger_rr (s : State) (l : Lane) : (s.countTrigger l).rr = s.rr := (rfl)
@[simp] theorem State.countTrigger_cc (s : State) (l : Lane) : (s.countTrigger l).cc = s.cc := (rfl)
@[simp] theorem State.countTrigger_ltg (s : State) (l : Lane) : (s.countTrigger l).ltg = s.ltg := (rfl)
@[simp] theorem State.countTrigger_ports (s : State) (l : Lane) : (s.countTrigger l).ports = s.ports := (rfl)
@[simp] theorem State.countTrigger_early (s : State) (l : Lane) : (s.countTrigger l).early = s.early := (rfl)
@[simp] theorem State.countTrigger_freeIndex (s : State) (l : Lane) : (s.countTrigger l).freeIndex = s.freeIndex := (rfl)
@[simp] theorem State.countTrigger_pending (s : State) (l : Lane) : (s.countTrigger l).pending = s.pending := (rfl)
@[simp] theorem State.now_countTrigger (s : State) (l : Lane) :
    (s.countTrigger l).now = s.now := (rfl)
@[simp] theorem State.siteClock_countTrigger (s : State) (l : Lane) :
    (s.countTrigger l).siteClock = s.siteClock := (rfl)
@[simp] theorem State.set_countTrigger (s : State) (l : Lane) :
    (s.countTrigger l).set = s.set := (rfl)
@[simp] theorem State.testLane_countTrigger (s : State) (l : Lane) :
    (s.countTrigger l).testLane = s.testLane := (rfl)
@[simp] theorem State.channel_countTrigger (s : State) (l : Lane) (c' : ChannelId) :
    (s.countTrigger l).channel c' = s.channel c' := (rfl)
@[simp] theorem State.pool_countTrigger (s : State) (l : Lane) (l' : Lane) (r' : Row) :
    (s.countTrigger l).pool l' r' = s.pool l' r' := (rfl)
@[simp] theorem State.queue_countTrigger (s : State) (l : Lane) (l' : Lane) :
    (s.countTrigger l).queue l' = s.queue l' := (rfl)
@[simp] theorem State.context_countTrigger (s : State) (l : Lane) (l' : Lane) :
    (s.countTrigger l).context l' = s.context l' := (rfl)
@[simp] theorem State.mode_countTrigger (s : State) (l : Lane) (l' : Lane) :
    (s.countTrigger l).mode l' = s.mode l' := (rfl)
@[simp] theorem State.isOccupied_countTrigger (s : State) (l : Lane) (l' : Lane) :
    (s.countTrigger l).isOccupied l' = s.isOccupied l' := (rfl)
@[simp] theorem State.port_countTrigger (s : State) (l : Lane) (p' : PortId) :
    (s.countTrigger l).port p' = s.port p' := (rfl)
@[simp] theorem State.ringPort_countTrigger (s : State) (l : Lane) (p' : PortId) :
    (s.countTrigger l).ringPort p' = s.ringPort p' := (rfl)
@[simp] theorem State.disabled_countTrigger (s : State) (l : Lane) (p' : PortId) :
    (s.countTrigger l).disabled p' = s.disabled p' := (rfl)
@[simp] theorem State.countCommitted_powered (s : State) (l : Lane) : (s.countCommitted l).powered = s.powered := (rfl)
@[simp] theorem State.countCommitted_clock (s : State) (l : Lane) : (s.countCommitted l).clock = s.clock := (rfl)
@[simp] theorem State.countCommitted_pins (s : State) (l : Lane) : (s.countCommitted l).pins = s.pins := (rfl)
@[simp] theorem State.countCommitted_sfe (s : State) (l : Lane) : (s.countCommitted l).sfe = s.sfe := (rfl)
@[simp] theorem State.countCommitted_xf (s : State) (l : Lane) : (s.countCommitted l).xf = s.xf := (rfl)
@[simp] theorem State.countCommitted_ptu (s : State) (l : Lane) : (s.countCommitted l).ptu = s.ptu := (rfl)
@[simp] theorem State.countCommitted_va (s : State) (l : Lane) : (s.countCommitted l).va = s.va := (rfl)
@[simp] theorem State.countCommitted_cle (s : State) (l : Lane) : (s.countCommitted l).cle = s.cle := (rfl)
@[simp] theorem State.countCommitted_cc (s : State) (l : Lane) : (s.countCommitted l).cc = s.cc := (rfl)
@[simp] theorem State.countCommitted_ltg (s : State) (l : Lane) : (s.countCommitted l).ltg = s.ltg := (rfl)
@[simp] theorem State.countCommitted_ports (s : State) (l : Lane) : (s.countCommitted l).ports = s.ports := (rfl)
@[simp] theorem State.countCommitted_early (s : State) (l : Lane) : (s.countCommitted l).early = s.early := (rfl)
@[simp] theorem State.countCommitted_freeIndex (s : State) (l : Lane) : (s.countCommitted l).freeIndex = s.freeIndex := (rfl)
@[simp] theorem State.countCommitted_pending (s : State) (l : Lane) : (s.countCommitted l).pending = s.pending := (rfl)
@[simp] theorem State.now_countCommitted (s : State) (l : Lane) :
    (s.countCommitted l).now = s.now := (rfl)
@[simp] theorem State.siteClock_countCommitted (s : State) (l : Lane) :
    (s.countCommitted l).siteClock = s.siteClock := (rfl)
@[simp] theorem State.set_countCommitted (s : State) (l : Lane) :
    (s.countCommitted l).set = s.set := (rfl)
@[simp] theorem State.testLane_countCommitted (s : State) (l : Lane) :
    (s.countCommitted l).testLane = s.testLane := (rfl)
@[simp] theorem State.channel_countCommitted (s : State) (l : Lane) (c' : ChannelId) :
    (s.countCommitted l).channel c' = s.channel c' := (rfl)
@[simp] theorem State.pool_countCommitted (s : State) (l : Lane) (l' : Lane) (r' : Row) :
    (s.countCommitted l).pool l' r' = s.pool l' r' := (rfl)
@[simp] theorem State.queue_countCommitted (s : State) (l : Lane) (l' : Lane) :
    (s.countCommitted l).queue l' = s.queue l' := (rfl)
@[simp] theorem State.context_countCommitted (s : State) (l : Lane) (l' : Lane) :
    (s.countCommitted l).context l' = s.context l' := (rfl)
@[simp] theorem State.mode_countCommitted (s : State) (l : Lane) (l' : Lane) :
    (s.countCommitted l).mode l' = s.mode l' := (rfl)
@[simp] theorem State.isOccupied_countCommitted (s : State) (l : Lane) (l' : Lane) :
    (s.countCommitted l).isOccupied l' = s.isOccupied l' := (rfl)
@[simp] theorem State.port_countCommitted (s : State) (l : Lane) (p' : PortId) :
    (s.countCommitted l).port p' = s.port p' := (rfl)
@[simp] theorem State.ringPort_countCommitted (s : State) (l : Lane) (p' : PortId) :
    (s.countCommitted l).ringPort p' = s.ringPort p' := (rfl)
@[simp] theorem State.disabled_countCommitted (s : State) (l : Lane) (p' : PortId) :
    (s.countCommitted l).disabled p' = s.disabled p' := (rfl)
@[simp] theorem State.withResult_powered (s : State) (x : TestResult) : (s.withResult x).powered = s.powered := (rfl)
@[simp] theorem State.withResult_clock (s : State) (x : TestResult) : (s.withResult x).clock = s.clock := (rfl)
@[simp] theorem State.withResult_pins (s : State) (x : TestResult) : (s.withResult x).pins = s.pins := (rfl)
@[simp] theorem State.withResult_sfe (s : State) (x : TestResult) : (s.withResult x).sfe = s.sfe := (rfl)
@[simp] theorem State.withResult_xf (s : State) (x : TestResult) : (s.withResult x).xf = s.xf := (rfl)
@[simp] theorem State.withResult_ptu (s : State) (x : TestResult) : (s.withResult x).ptu = s.ptu := (rfl)
@[simp] theorem State.withResult_va (s : State) (x : TestResult) : (s.withResult x).va = s.va := (rfl)
@[simp] theorem State.withResult_cle (s : State) (x : TestResult) : (s.withResult x).cle = s.cle := (rfl)
@[simp] theorem State.withResult_rr (s : State) (x : TestResult) : (s.withResult x).rr = s.rr := (rfl)
@[simp] theorem State.withResult_cc (s : State) (x : TestResult) : (s.withResult x).cc = s.cc := (rfl)
@[simp] theorem State.withResult_ports (s : State) (x : TestResult) : (s.withResult x).ports = s.ports := (rfl)
@[simp] theorem State.withResult_early (s : State) (x : TestResult) : (s.withResult x).early = s.early := (rfl)
@[simp] theorem State.withResult_freeIndex (s : State) (x : TestResult) : (s.withResult x).freeIndex = s.freeIndex := (rfl)
@[simp] theorem State.withResult_pending (s : State) (x : TestResult) : (s.withResult x).pending = s.pending := (rfl)
@[simp] theorem State.now_withResult (s : State) (x : TestResult) :
    (s.withResult x).now = s.now := (rfl)
@[simp] theorem State.siteClock_withResult (s : State) (x : TestResult) :
    (s.withResult x).siteClock = s.siteClock := (rfl)
@[simp] theorem State.set_withResult (s : State) (x : TestResult) :
    (s.withResult x).set = s.set := (rfl)
@[simp] theorem State.channel_withResult (s : State) (x : TestResult) (c' : ChannelId) :
    (s.withResult x).channel c' = s.channel c' := (rfl)
@[simp] theorem State.pool_withResult (s : State) (x : TestResult) (l' : Lane) (r' : Row) :
    (s.withResult x).pool l' r' = s.pool l' r' := (rfl)
@[simp] theorem State.queue_withResult (s : State) (x : TestResult) (l' : Lane) :
    (s.withResult x).queue l' = s.queue l' := (rfl)
@[simp] theorem State.context_withResult (s : State) (x : TestResult) (l' : Lane) :
    (s.withResult x).context l' = s.context l' := (rfl)
@[simp] theorem State.mode_withResult (s : State) (x : TestResult) (l' : Lane) :
    (s.withResult x).mode l' = s.mode l' := (rfl)
@[simp] theorem State.isOccupied_withResult (s : State) (x : TestResult) (l' : Lane) :
    (s.withResult x).isOccupied l' = s.isOccupied l' := (rfl)
@[simp] theorem State.port_withResult (s : State) (x : TestResult) (p' : PortId) :
    (s.withResult x).port p' = s.port p' := (rfl)
@[simp] theorem State.ringPort_withResult (s : State) (x : TestResult) (p' : PortId) :
    (s.withResult x).ringPort p' = s.ringPort p' := (rfl)
@[simp] theorem State.disabled_withResult (s : State) (x : TestResult) (p' : PortId) :
    (s.withResult x).disabled p' = s.disabled p' := (rfl)
@[simp] theorem State.testLane_withResult (s : State) (x : TestResult) : (s.withResult x).testLane = none := (rfl)

end Machine

end Sys2Proof
end

