-- ==== Sys2Proof/Laws/Footprint.lean ====
section
/-! SUPPORT. What each shared operation leaves as it is: one lemma for every block of the state that the operation does not
touch. -/

namespace Sys2Proof.Machine

/-- A part that every step of a fold leaves as it is, the fold leaves as it is. -/
theorem foldl_keeps {α β : Type} (g : State → β) (f : State → α → State) (h : ∀ s a, g (f s a) = g s) (l : List α)
    (s : State) : g (l.foldl f s) = g s := by
  induction l generalizing s with
  | nil => rfl
  | cons a l ih => rw [List.foldl_cons, ih, h]


/-! raiseAt -/

@[simp] theorem raiseAt_powered (p : PortId) (f : NoticeSet) (s : State) : (raiseAt p f s).powered = s.powered := by unfold raiseAt; (repeat' split) <;> simp
@[simp] theorem raiseAt_clock (p : PortId) (f : NoticeSet) (s : State) : (raiseAt p f s).clock = s.clock := by unfold raiseAt; (repeat' split) <;> simp
@[simp] theorem raiseAt_pins (p : PortId) (f : NoticeSet) (s : State) : (raiseAt p f s).pins = s.pins := by unfold raiseAt; (repeat' split) <;> simp
@[simp] theorem raiseAt_sfe (p : PortId) (f : NoticeSet) (s : State) : (raiseAt p f s).sfe = s.sfe := by unfold raiseAt; (repeat' split) <;> simp
@[simp] theorem raiseAt_xf (p : PortId) (f : NoticeSet) (s : State) : (raiseAt p f s).xf = s.xf := by unfold raiseAt; (repeat' split) <;> simp
@[simp] theorem raiseAt_ptu (p : PortId) (f : NoticeSet) (s : State) : (raiseAt p f s).ptu = s.ptu := by unfold raiseAt; (repeat' split) <;> simp
@[simp] theorem raiseAt_va (p : PortId) (f : NoticeSet) (s : State) : (raiseAt p f s).va = s.va := by unfold raiseAt; (repeat' split) <;> simp
@[simp] theorem raiseAt_cle (p : PortId) (f : NoticeSet) (s : State) : (raiseAt p f s).cle = s.cle := by unfold raiseAt; (repeat' split) <;> simp
@[simp] theorem raiseAt_rr (p : PortId) (f : NoticeSet) (s : State) : (raiseAt p f s).rr = s.rr := by unfold raiseAt; (repeat' split) <;> simp
@[simp] theorem raiseAt_cc (p : PortId) (f : NoticeSet) (s : State) : (raiseAt p f s).cc = s.cc := by unfold raiseAt; (repeat' split) <;> simp
@[simp] theorem raiseAt_ltg (p : PortId) (f : NoticeSet) (s : State) : (raiseAt p f s).ltg = s.ltg := by unfold raiseAt; (repeat' split) <;> simp
@[simp] theorem raiseAt_early (p : PortId) (f : NoticeSet) (s : State) : (raiseAt p f s).early = s.early := by unfold raiseAt; (repeat' split) <;> simp
@[simp] theorem raiseAt_freeIndex (p : PortId) (f : NoticeSet) (s : State) : (raiseAt p f s).freeIndex = s.freeIndex := by unfold raiseAt; (repeat' split) <;> simp
@[simp] theorem raiseAt_pending (p : PortId) (f : NoticeSet) (s : State) : (raiseAt p f s).pending = s.pending := by unfold raiseAt; (repeat' split) <;> simp

/-! raiseAll -/

@[simp] theorem raiseAll_powered (f : NoticeSet) (s : State) : (raiseAll f s).powered = s.powered := by simp [raiseAll]
@[simp] theorem raiseAll_clock (f : NoticeSet) (s : State) : (raiseAll f s).clock = s.clock := by simp [raiseAll]
@[simp] theorem raiseAll_pins (f : NoticeSet) (s : State) : (raiseAll f s).pins = s.pins := by simp [raiseAll]
@[simp] theorem raiseAll_sfe (f : NoticeSet) (s : State) : (raiseAll f s).sfe = s.sfe := by simp [raiseAll]
@[simp] theorem raiseAll_xf (f : NoticeSet) (s : State) : (raiseAll f s).xf = s.xf := by simp [raiseAll]
@[simp] theorem raiseAll_ptu (f : NoticeSet) (s : State) : (raiseAll f s).ptu = s.ptu := by simp [raiseAll]
@[simp] theorem raiseAll_va (f : NoticeSet) (s : State) : (raiseAll f s).va = s.va := by simp [raiseAll]
@[simp] theorem raiseAll_cle (f : NoticeSet) (s : State) : (raiseAll f s).cle = s.cle := by simp [raiseAll]
@[simp] theorem raiseAll_rr (f : NoticeSet) (s : State) : (raiseAll f s).rr = s.rr := by simp [raiseAll]
@[simp] theorem raiseAll_cc (f : NoticeSet) (s : State) : (raiseAll f s).cc = s.cc := by simp [raiseAll]
@[simp] theorem raiseAll_ltg (f : NoticeSet) (s : State) : (raiseAll f s).ltg = s.ltg := by simp [raiseAll]
@[simp] theorem raiseAll_early (f : NoticeSet) (s : State) : (raiseAll f s).early = s.early := by simp [raiseAll]
@[simp] theorem raiseAll_freeIndex (f : NoticeSet) (s : State) : (raiseAll f s).freeIndex = s.freeIndex := by simp [raiseAll]
@[simp] theorem raiseAll_pending (f : NoticeSet) (s : State) : (raiseAll f s).pending = s.pending := by simp [raiseAll]

/-! forLaneChannels -/

@[simp] theorem forLaneChannels_powered (f : Channel → Channel) (l : Lane) (s : State) : (forLaneChannels f l s).powered = s.powered := by
  unfold forLaneChannels; exact foldl_keeps (·.powered) _ (fun _ _ => by simp) _ _
@[simp] theorem forLaneChannels_clock (f : Channel → Channel) (l : Lane) (s : State) : (forLaneChannels f l s).clock = s.clock := by
  unfold forLaneChannels; exact foldl_keeps (·.clock) _ (fun _ _ => by simp) _ _
@[simp] theorem forLaneChannels_pins (f : Channel → Channel) (l : Lane) (s : State) : (forLaneChannels f l s).pins = s.pins := by
  unfold forLaneChannels; exact foldl_keeps (·.pins) _ (fun _ _ => by simp) _ _
@[simp] theorem forLaneChannels_xf (f : Channel → Channel) (l : Lane) (s : State) : (forLaneChannels f l s).xf = s.xf := by
  unfold forLaneChannels; exact foldl_keeps (·.xf) _ (fun _ _ => by simp) _ _
@[simp] theorem forLaneChannels_ptu (f : Channel → Channel) (l : Lane) (s : State) : (forLaneChannels f l s).ptu = s.ptu := by
  unfold forLaneChannels; exact foldl_keeps (·.ptu) _ (fun _ _ => by simp) _ _
@[simp] theorem forLaneChannels_va (f : Channel → Channel) (l : Lane) (s : State) : (forLaneChannels f l s).va = s.va := by
  unfold forLaneChannels; exact foldl_keeps (·.va) _ (fun _ _ => by simp) _ _
@[simp] theorem forLaneChannels_cle (f : Channel → Channel) (l : Lane) (s : State) : (forLaneChannels f l s).cle = s.cle := by
  unfold forLaneChannels; exact foldl_keeps (·.cle) _ (fun _ _ => by simp) _ _
@[simp] theorem forLaneChannels_rr (f : Channel → Channel) (l : Lane) (s : State) : (forLaneChannels f l s).rr = s.rr := by
  unfold forLaneChannels; exact foldl_keeps (·.rr) _ (fun _ _ => by simp) _ _
@[simp] theorem forLaneChannels_cc (f : Channel → Channel) (l : Lane) (s : State) : (forLaneChannels f l s).cc = s.cc := by
  unfold forLaneChannels; exact foldl_keeps (·.cc) _ (fun _ _ => by simp) _ _
@[simp] theorem forLaneChannels_ltg (f : Channel → Channel) (l : Lane) (s : State) : (forLaneChannels f l s).ltg = s.ltg := by
  unfold forLaneChannels; exact foldl_keeps (·.ltg) _ (fun _ _ => by simp) _ _
@[simp] theorem forLaneChannels_ports (f : Channel → Channel) (l : Lane) (s : State) : (forLaneChannels f l s).ports = s.ports := by
  unfold forLaneChannels; exact foldl_keeps (·.ports) _ (fun _ _ => by simp) _ _
@[simp] theorem forLaneChannels_early (f : Channel → Channel) (l : Lane) (s : State) : (forLaneChannels f l s).early = s.early := by
  unfold forLaneChannels; exact foldl_keeps (·.early) _ (fun _ _ => by simp) _ _
@[simp] theorem forLaneChannels_freeIndex (f : Channel → Channel) (l : Lane) (s : State) : (forLaneChannels f l s).freeIndex = s.freeIndex := by
  unfold forLaneChannels; exact foldl_keeps (·.freeIndex) _ (fun _ _ => by simp) _ _
@[simp] theorem forLaneChannels_pending (f : Channel → Channel) (l : Lane) (s : State) : (forLaneChannels f l s).pending = s.pending := by
  unfold forLaneChannels; exact foldl_keeps (·.pending) _ (fun _ _ => by simp) _ _

/-! setHealth -/

@[simp] theorem setHealth_powered (f : ChannelId → Nat) (l : Lane) (s : State) : (setHealth f l s).powered = s.powered := by
  unfold setHealth; exact foldl_keeps (·.powered) _ (fun _ _ => by simp) _ _
@[simp] theorem setHealth_clock (f : ChannelId → Nat) (l : Lane) (s : State) : (setHealth f l s).clock = s.clock := by
  unfold setHealth; exact foldl_keeps (·.clock) _ (fun _ _ => by simp) _ _
@[simp] theorem setHealth_pins (f : ChannelId → Nat) (l : Lane) (s : State) : (setHealth f l s).pins = s.pins := by
  unfold setHealth; exact foldl_keeps (·.pins) _ (fun _ _ => by simp) _ _
@[simp] theorem setHealth_xf (f : ChannelId → Nat) (l : Lane) (s : State) : (setHealth f l s).xf = s.xf := by
  unfold setHealth; exact foldl_keeps (·.xf) _ (fun _ _ => by simp) _ _
@[simp] theorem setHealth_ptu (f : ChannelId → Nat) (l : Lane) (s : State) : (setHealth f l s).ptu = s.ptu := by
  unfold setHealth; exact foldl_keeps (·.ptu) _ (fun _ _ => by simp) _ _
@[simp] theorem setHealth_va (f : ChannelId → Nat) (l : Lane) (s : State) : (setHealth f l s).va = s.va := by
  unfold setHealth; exact foldl_keeps (·.va) _ (fun _ _ => by simp) _ _
@[simp] theorem setHealth_cle (f : ChannelId → Nat) (l : Lane) (s : State) : (setHealth f l s).cle = s.cle := by
  unfold setHealth; exact foldl_keeps (·.cle) _ (fun _ _ => by simp) _ _
@[simp] theorem setHealth_rr (f : ChannelId → Nat) (l : Lane) (s : State) : (setHealth f l s).rr = s.rr := by
  unfold setHealth; exact foldl_keeps (·.rr) _ (fun _ _ => by simp) _ _
@[simp] theorem setHealth_cc (f : ChannelId → Nat) (l : Lane) (s : State) : (setHealth f l s).cc = s.cc := by
  unfold setHealth; exact foldl_keeps (·.cc) _ (fun _ _ => by simp) _ _
@[simp] theorem setHealth_ltg (f : ChannelId → Nat) (l : Lane) (s : State) : (setHealth f l s).ltg = s.ltg := by
  unfold setHealth; exact foldl_keeps (·.ltg) _ (fun _ _ => by simp) _ _
@[simp] theorem setHealth_ports (f : ChannelId → Nat) (l : Lane) (s : State) : (setHealth f l s).ports = s.ports := by
  unfold setHealth; exact foldl_keeps (·.ports) _ (fun _ _ => by simp) _ _
@[simp] theorem setHealth_early (f : ChannelId → Nat) (l : Lane) (s : State) : (setHealth f l s).early = s.early := by
  unfold setHealth; exact foldl_keeps (·.early) _ (fun _ _ => by simp) _ _
@[simp] theorem setHealth_freeIndex (f : ChannelId → Nat) (l : Lane) (s : State) : (setHealth f l s).freeIndex = s.freeIndex := by
  unfold setHealth; exact foldl_keeps (·.freeIndex) _ (fun _ _ => by simp) _ _
@[simp] theorem setHealth_pending (f : ChannelId → Nat) (l : Lane) (s : State) : (setHealth f l s).pending = s.pending := by
  unfold setHealth; exact foldl_keeps (·.pending) _ (fun _ _ => by simp) _ _

/-! emptyCrossings -/

@[simp] theorem emptyCrossings_powered (l : Lane) (s : State) : (emptyCrossings l s).powered = s.powered := by simp [emptyCrossings]
@[simp] theorem emptyCrossings_clock (l : Lane) (s : State) : (emptyCrossings l s).clock = s.clock := by simp [emptyCrossings]
@[simp] theorem emptyCrossings_pins (l : Lane) (s : State) : (emptyCrossings l s).pins = s.pins := by simp [emptyCrossings]
@[simp] theorem emptyCrossings_sfe (l : Lane) (s : State) : (emptyCrossings l s).sfe = s.sfe := by simp [emptyCrossings]
@[simp] theorem emptyCrossings_ptu (l : Lane) (s : State) : (emptyCrossings l s).ptu = s.ptu := by simp [emptyCrossings]
@[simp] theorem emptyCrossings_va (l : Lane) (s : State) : (emptyCrossings l s).va = s.va := by simp [emptyCrossings]
@[simp] theorem emptyCrossings_cle (l : Lane) (s : State) : (emptyCrossings l s).cle = s.cle := by simp [emptyCrossings]
@[simp] theorem emptyCrossings_rr (l : Lane) (s : State) : (emptyCrossings l s).rr = s.rr := by simp [emptyCrossings]
@[simp] theorem emptyCrossings_cc (l : Lane) (s : State) : (emptyCrossings l s).cc = s.cc := by simp [emptyCrossings]
@[simp] theorem emptyCrossings_ltg (l : Lane) (s : State) : (emptyCrossings l s).ltg = s.ltg := by simp [emptyCrossings]
@[simp] theorem emptyCrossings_ports (l : Lane) (s : State) : (emptyCrossings l s).ports = s.ports := by simp [emptyCrossings]
@[simp] theorem emptyCrossings_early (l : Lane) (s : State) : (emptyCrossings l s).early = s.early := by simp [emptyCrossings]
@[simp] theorem emptyCrossings_freeIndex (l : Lane) (s : State) : (emptyCrossings l s).freeIndex = s.freeIndex := by simp [emptyCrossings]
@[simp] theorem emptyCrossings_pending (l : Lane) (s : State) : (emptyCrossings l s).pending = s.pending := by simp [emptyCrossings]

/-! completeTest -/

@[simp] theorem completeTest_powered (t : TestContext) (f : ChannelId → Nat) (r : Option Seq) (s : State) : (completeTest t f r s).powered = s.powered := by unfold completeTest; dsimp only; (repeat' split) <;> simp
@[simp] theorem completeTest_clock (t : TestContext) (f : ChannelId → Nat) (r : Option Seq) (s : State) : (completeTest t f r s).clock = s.clock := by unfold completeTest; dsimp only; (repeat' split) <;> simp
@[simp] theorem completeTest_pins (t : TestContext) (f : ChannelId → Nat) (r : Option Seq) (s : State) : (completeTest t f r s).pins = s.pins := by unfold completeTest; dsimp only; (repeat' split) <;> simp
@[simp] theorem completeTest_xf (t : TestContext) (f : ChannelId → Nat) (r : Option Seq) (s : State) : (completeTest t f r s).xf = s.xf := by unfold completeTest; dsimp only; (repeat' split) <;> simp
@[simp] theorem completeTest_ptu (t : TestContext) (f : ChannelId → Nat) (r : Option Seq) (s : State) : (completeTest t f r s).ptu = s.ptu := by unfold completeTest; dsimp only; (repeat' split) <;> simp
@[simp] theorem completeTest_va (t : TestContext) (f : ChannelId → Nat) (r : Option Seq) (s : State) : (completeTest t f r s).va = s.va := by unfold completeTest; dsimp only; (repeat' split) <;> simp
@[simp] theorem completeTest_cle (t : TestContext) (f : ChannelId → Nat) (r : Option Seq) (s : State) : (completeTest t f r s).cle = s.cle := by unfold completeTest; dsimp only; (repeat' split) <;> simp
@[simp] theorem completeTest_rr (t : TestContext) (f : ChannelId → Nat) (r : Option Seq) (s : State) : (completeTest t f r s).rr = s.rr := by unfold completeTest; dsimp only; (repeat' split) <;> simp
@[simp] theorem completeTest_cc (t : TestContext) (f : ChannelId → Nat) (r : Option Seq) (s : State) : (completeTest t f r s).cc = s.cc := by unfold completeTest; dsimp only; (repeat' split) <;> simp
@[simp] theorem completeTest_early (t : TestContext) (f : ChannelId → Nat) (r : Option Seq) (s : State) : (completeTest t f r s).early = s.early := by unfold completeTest; dsimp only; (repeat' split) <;> simp
@[simp] theorem completeTest_freeIndex (t : TestContext) (f : ChannelId → Nat) (r : Option Seq) (s : State) : (completeTest t f r s).freeIndex = s.freeIndex := by unfold completeTest; dsimp only; (repeat' split) <;> simp
@[simp] theorem completeTest_pending (t : TestContext) (f : ChannelId → Nat) (r : Option Seq) (s : State) : (completeTest t f r s).pending = s.pending := by unfold completeTest; dsimp only; (repeat' split) <;> simp

/-! abortTest -/

@[simp] theorem abortTest_powered (s : State) : (abortTest s).powered = s.powered := by
  cases h : s.ltg.test <;> simp [abortTest, h]
@[simp] theorem abortTest_clock (s : State) : (abortTest s).clock = s.clock := by
  cases h : s.ltg.test <;> simp [abortTest, h]
@[simp] theorem abortTest_pins (s : State) : (abortTest s).pins = s.pins := by
  cases h : s.ltg.test <;> simp [abortTest, h]
@[simp] theorem abortTest_ptu (s : State) : (abortTest s).ptu = s.ptu := by
  cases h : s.ltg.test <;> simp [abortTest, h]
@[simp] theorem abortTest_cle (s : State) : (abortTest s).cle = s.cle := by
  cases h : s.ltg.test <;> simp [abortTest, h]
@[simp] theorem abortTest_rr (s : State) : (abortTest s).rr = s.rr := by
  cases h : s.ltg.test <;> simp [abortTest, h]
@[simp] theorem abortTest_cc (s : State) : (abortTest s).cc = s.cc := by
  cases h : s.ltg.test <;> simp [abortTest, h]
@[simp] theorem abortTest_early (s : State) : (abortTest s).early = s.early := by
  cases h : s.ltg.test <;> simp [abortTest, h]
@[simp] theorem abortTest_freeIndex (s : State) : (abortTest s).freeIndex = s.freeIndex := by
  cases h : s.ltg.test <;> simp [abortTest, h]
@[simp] theorem abortTest_pending (s : State) : (abortTest s).pending = s.pending := by
  cases h : s.ltg.test <;> simp [abortTest, h]

/-! abortTestOn -/

@[simp] theorem abortTestOn_powered (l : Lane) (s : State) : (abortTestOn l s).powered = s.powered := by unfold abortTestOn; (repeat' split) <;> simp
@[simp] theorem abortTestOn_clock (l : Lane) (s : State) : (abortTestOn l s).clock = s.clock := by unfold abortTestOn; (repeat' split) <;> simp
@[simp] theorem abortTestOn_pins (l : Lane) (s : State) : (abortTestOn l s).pins = s.pins := by unfold abortTestOn; (repeat' split) <;> simp
@[simp] theorem abortTestOn_ptu (l : Lane) (s : State) : (abortTestOn l s).ptu = s.ptu := by unfold abortTestOn; (repeat' split) <;> simp
@[simp] theorem abortTestOn_cle (l : Lane) (s : State) : (abortTestOn l s).cle = s.cle := by unfold abortTestOn; (repeat' split) <;> simp
@[simp] theorem abortTestOn_rr (l : Lane) (s : State) : (abortTestOn l s).rr = s.rr := by unfold abortTestOn; (repeat' split) <;> simp
@[simp] theorem abortTestOn_cc (l : Lane) (s : State) : (abortTestOn l s).cc = s.cc := by unfold abortTestOn; (repeat' split) <;> simp
@[simp] theorem abortTestOn_early (l : Lane) (s : State) : (abortTestOn l s).early = s.early := by unfold abortTestOn; (repeat' split) <;> simp
@[simp] theorem abortTestOn_freeIndex (l : Lane) (s : State) : (abortTestOn l s).freeIndex = s.freeIndex := by unfold abortTestOn; (repeat' split) <;> simp
@[simp] theorem abortTestOn_pending (l : Lane) (s : State) : (abortTestOn l s).pending = s.pending := by unfold abortTestOn; (repeat' split) <;> simp

/-! evictCursor -/

@[simp] theorem evictCursor_powered (o : Seq) (p : PortId) (s : State) : (evictCursor o p s).powered = s.powered := by unfold evictCursor; (repeat' split) <;> simp
@[simp] theorem evictCursor_clock (o : Seq) (p : PortId) (s : State) : (evictCursor o p s).clock = s.clock := by unfold evictCursor; (repeat' split) <;> simp
@[simp] theorem evictCursor_pins (o : Seq) (p : PortId) (s : State) : (evictCursor o p s).pins = s.pins := by unfold evictCursor; (repeat' split) <;> simp
@[simp] theorem evictCursor_sfe (o : Seq) (p : PortId) (s : State) : (evictCursor o p s).sfe = s.sfe := by unfold evictCursor; (repeat' split) <;> simp
@[simp] theorem evictCursor_xf (o : Seq) (p : PortId) (s : State) : (evictCursor o p s).xf = s.xf := by unfold evictCursor; (repeat' split) <;> simp
@[simp] theorem evictCursor_ptu (o : Seq) (p : PortId) (s : State) : (evictCursor o p s).ptu = s.ptu := by unfold evictCursor; (repeat' split) <;> simp
@[simp] theorem evictCursor_va (o : Seq) (p : PortId) (s : State) : (evictCursor o p s).va = s.va := by unfold evictCursor; (repeat' split) <;> simp
@[simp] theorem evictCursor_cle (o : Seq) (p : PortId) (s : State) : (evictCursor o p s).cle = s.cle := by unfold evictCursor; (repeat' split) <;> simp
@[simp] theorem evictCursor_cc (o : Seq) (p : PortId) (s : State) : (evictCursor o p s).cc = s.cc := by unfold evictCursor; (repeat' split) <;> simp
@[simp] theorem evictCursor_ltg (o : Seq) (p : PortId) (s : State) : (evictCursor o p s).ltg = s.ltg := by unfold evictCursor; (repeat' split) <;> simp
@[simp] theorem evictCursor_early (o : Seq) (p : PortId) (s : State) : (evictCursor o p s).early = s.early := by unfold evictCursor; (repeat' split) <;> simp
@[simp] theorem evictCursor_freeIndex (o : Seq) (p : PortId) (s : State) : (evictCursor o p s).freeIndex = s.freeIndex := by unfold evictCursor; (repeat' split) <;> simp
@[simp] theorem evictCursor_pending (o : Seq) (p : PortId) (s : State) : (evictCursor o p s).pending = s.pending := by unfold evictCursor; (repeat' split) <;> simp

/-! evictIfFull -/

@[simp] theorem evictIfFull_powered (s : State) : (evictIfFull s).powered = s.powered := by unfold evictIfFull; (repeat' split) <;> simp
@[simp] theorem evictIfFull_clock (s : State) : (evictIfFull s).clock = s.clock := by unfold evictIfFull; (repeat' split) <;> simp
@[simp] theorem evictIfFull_pins (s : State) : (evictIfFull s).pins = s.pins := by unfold evictIfFull; (repeat' split) <;> simp
@[simp] theorem evictIfFull_sfe (s : State) : (evictIfFull s).sfe = s.sfe := by unfold evictIfFull; (repeat' split) <;> simp
@[simp] theorem evictIfFull_xf (s : State) : (evictIfFull s).xf = s.xf := by unfold evictIfFull; (repeat' split) <;> simp
@[simp] theorem evictIfFull_ptu (s : State) : (evictIfFull s).ptu = s.ptu := by unfold evictIfFull; (repeat' split) <;> simp
@[simp] theorem evictIfFull_va (s : State) : (evictIfFull s).va = s.va := by unfold evictIfFull; (repeat' split) <;> simp
@[simp] theorem evictIfFull_cle (s : State) : (evictIfFull s).cle = s.cle := by unfold evictIfFull; (repeat' split) <;> simp
@[simp] theorem evictIfFull_cc (s : State) : (evictIfFull s).cc = s.cc := by unfold evictIfFull; (repeat' split) <;> simp
@[simp] theorem evictIfFull_ltg (s : State) : (evictIfFull s).ltg = s.ltg := by unfold evictIfFull; (repeat' split) <;> simp
@[simp] theorem evictIfFull_early (s : State) : (evictIfFull s).early = s.early := by unfold evictIfFull; (repeat' split) <;> simp
@[simp] theorem evictIfFull_freeIndex (s : State) : (evictIfFull s).freeIndex = s.freeIndex := by unfold evictIfFull; (repeat' split) <;> simp
@[simp] theorem evictIfFull_pending (s : State) : (evictIfFull s).pending = s.pending := by unfold evictIfFull; (repeat' split) <;> simp

/-! queueAlert -/

@[simp] theorem queueAlert_powered (e : AlertEntry) (p : PortId) (s : State) : (queueAlert e p s).powered = s.powered := by unfold queueAlert; dsimp only; (repeat' split) <;> simp
@[simp] theorem queueAlert_clock (e : AlertEntry) (p : PortId) (s : State) : (queueAlert e p s).clock = s.clock := by unfold queueAlert; dsimp only; (repeat' split) <;> simp
@[simp] theorem queueAlert_pins (e : AlertEntry) (p : PortId) (s : State) : (queueAlert e p s).pins = s.pins := by unfold queueAlert; dsimp only; (repeat' split) <;> simp
@[simp] theorem queueAlert_sfe (e : AlertEntry) (p : PortId) (s : State) : (queueAlert e p s).sfe = s.sfe := by unfold queueAlert; dsimp only; (repeat' split) <;> simp
@[simp] theorem queueAlert_xf (e : AlertEntry) (p : PortId) (s : State) : (queueAlert e p s).xf = s.xf := by unfold queueAlert; dsimp only; (repeat' split) <;> simp
@[simp] theorem queueAlert_ptu (e : AlertEntry) (p : PortId) (s : State) : (queueAlert e p s).ptu = s.ptu := by unfold queueAlert; dsimp only; (repeat' split) <;> simp
@[simp] theorem queueAlert_va (e : AlertEntry) (p : PortId) (s : State) : (queueAlert e p s).va = s.va := by unfold queueAlert; dsimp only; (repeat' split) <;> simp
@[simp] theorem queueAlert_cle (e : AlertEntry) (p : PortId) (s : State) : (queueAlert e p s).cle = s.cle := by unfold queueAlert; dsimp only; (repeat' split) <;> simp
@[simp] theorem queueAlert_cc (e : AlertEntry) (p : PortId) (s : State) : (queueAlert e p s).cc = s.cc := by unfold queueAlert; dsimp only; (repeat' split) <;> simp
@[simp] theorem queueAlert_ltg (e : AlertEntry) (p : PortId) (s : State) : (queueAlert e p s).ltg = s.ltg := by unfold queueAlert; dsimp only; (repeat' split) <;> simp
@[simp] theorem queueAlert_early (e : AlertEntry) (p : PortId) (s : State) : (queueAlert e p s).early = s.early := by unfold queueAlert; dsimp only; (repeat' split) <;> simp
@[simp] theorem queueAlert_freeIndex (e : AlertEntry) (p : PortId) (s : State) : (queueAlert e p s).freeIndex = s.freeIndex := by unfold queueAlert; dsimp only; (repeat' split) <;> simp
@[simp] theorem queueAlert_pending (e : AlertEntry) (p : PortId) (s : State) : (queueAlert e p s).pending = s.pending := by unfold queueAlert; dsimp only; (repeat' split) <;> simp

/-! offerRecord -/

@[simp] theorem offerRecord_powered (x : Record) (p : PortId) (s : State) : (offerRecord x p s).powered = s.powered := by unfold offerRecord; dsimp only; (repeat' split) <;> simp
@[simp] theorem offerRecord_clock (x : Record) (p : PortId) (s : State) : (offerRecord x p s).clock = s.clock := by unfold offerRecord; dsimp only; (repeat' split) <;> simp
@[simp] theorem offerRecord_pins (x : Record) (p : PortId) (s : State) : (offerRecord x p s).pins = s.pins := by unfold offerRecord; dsimp only; (repeat' split) <;> simp
@[simp] theorem offerRecord_sfe (x : Record) (p : PortId) (s : State) : (offerRecord x p s).sfe = s.sfe := by unfold offerRecord; dsimp only; (repeat' split) <;> simp
@[simp] theorem offerRecord_xf (x : Record) (p : PortId) (s : State) : (offerRecord x p s).xf = s.xf := by unfold offerRecord; dsimp only; (repeat' split) <;> simp
@[simp] theorem offerRecord_ptu (x : Record) (p : PortId) (s : State) : (offerRecord x p s).ptu = s.ptu := by unfold offerRecord; dsimp only; (repeat' split) <;> simp
@[simp] theorem offerRecord_va (x : Record) (p : PortId) (s : State) : (offerRecord x p s).va = s.va := by unfold offerRecord; dsimp only; (repeat' split) <;> simp
@[simp] theorem offerRecord_cle (x : Record) (p : PortId) (s : State) : (offerRecord x p s).cle = s.cle := by unfold offerRecord; dsimp only; (repeat' split) <;> simp
@[simp] theorem offerRecord_cc (x : Record) (p : PortId) (s : State) : (offerRecord x p s).cc = s.cc := by unfold offerRecord; dsimp only; (repeat' split) <;> simp
@[simp] theorem offerRecord_ltg (x : Record) (p : PortId) (s : State) : (offerRecord x p s).ltg = s.ltg := by unfold offerRecord; dsimp only; (repeat' split) <;> simp
@[simp] theorem offerRecord_early (x : Record) (p : PortId) (s : State) : (offerRecord x p s).early = s.early := by unfold offerRecord; dsimp only; (repeat' split) <;> simp
@[simp] theorem offerRecord_freeIndex (x : Record) (p : PortId) (s : State) : (offerRecord x p s).freeIndex = s.freeIndex := by unfold offerRecord; dsimp only; (repeat' split) <;> simp
@[simp] theorem offerRecord_pending (x : Record) (p : PortId) (s : State) : (offerRecord x p s).pending = s.pending := by unfold offerRecord; dsimp only; (repeat' split) <;> simp

/-! commitRecord -/

@[simp] theorem commitRecord_powered (x : Record) (s : State) : (commitRecord x s).powered = s.powered := by simp [commitRecord]
@[simp] theorem commitRecord_clock (x : Record) (s : State) : (commitRecord x s).clock = s.clock := by simp [commitRecord]
@[simp] theorem commitRecord_pins (x : Record) (s : State) : (commitRecord x s).pins = s.pins := by simp [commitRecord]
@[simp] theorem commitRecord_sfe (x : Record) (s : State) : (commitRecord x s).sfe = s.sfe := by simp [commitRecord]
@[simp] theorem commitRecord_xf (x : Record) (s : State) : (commitRecord x s).xf = s.xf := by simp [commitRecord]
@[simp] theorem commitRecord_ptu (x : Record) (s : State) : (commitRecord x s).ptu = s.ptu := by simp [commitRecord]
@[simp] theorem commitRecord_va (x : Record) (s : State) : (commitRecord x s).va = s.va := by simp [commitRecord]
@[simp] theorem commitRecord_cle (x : Record) (s : State) : (commitRecord x s).cle = s.cle := by simp [commitRecord]
@[simp] theorem commitRecord_cc (x : Record) (s : State) : (commitRecord x s).cc = s.cc := by simp [commitRecord]
@[simp] theorem commitRecord_ltg (x : Record) (s : State) : (commitRecord x s).ltg = s.ltg := by simp [commitRecord]
@[simp] theorem commitRecord_early (x : Record) (s : State) : (commitRecord x s).early = s.early := by simp [commitRecord]
@[simp] theorem commitRecord_freeIndex (x : Record) (s : State) : (commitRecord x s).freeIndex = s.freeIndex := by simp [commitRecord]
@[simp] theorem commitRecord_pending (x : Record) (s : State) : (commitRecord x s).pending = s.pending := by simp [commitRecord]

/-! startTrigger -/

@[simp] theorem startTrigger_powered (l : Lane) (s : State) : (startTrigger l s).powered = s.powered := by simp [startTrigger]
@[simp] theorem startTrigger_clock (l : Lane) (s : State) : (startTrigger l s).clock = s.clock := by simp [startTrigger]
@[simp] theorem startTrigger_pins (l : Lane) (s : State) : (startTrigger l s).pins = s.pins := by simp [startTrigger]
@[simp] theorem startTrigger_sfe (l : Lane) (s : State) : (startTrigger l s).sfe = s.sfe := by simp [startTrigger]
@[simp] theorem startTrigger_xf (l : Lane) (s : State) : (startTrigger l s).xf = s.xf := by simp [startTrigger]
@[simp] theorem startTrigger_ptu (l : Lane) (s : State) : (startTrigger l s).ptu = s.ptu := by simp [startTrigger]
@[simp] theorem startTrigger_va (l : Lane) (s : State) : (startTrigger l s).va = s.va := by simp [startTrigger]
@[simp] theorem startTrigger_rr (l : Lane) (s : State) : (startTrigger l s).rr = s.rr := by simp [startTrigger]
@[simp] theorem startTrigger_cc (l : Lane) (s : State) : (startTrigger l s).cc = s.cc := by simp [startTrigger]
@[simp] theorem startTrigger_ltg (l : Lane) (s : State) : (startTrigger l s).ltg = s.ltg := by simp [startTrigger]
@[simp] theorem startTrigger_ports (l : Lane) (s : State) : (startTrigger l s).ports = s.ports := by simp [startTrigger]
@[simp] theorem startTrigger_early (l : Lane) (s : State) : (startTrigger l s).early = s.early := by simp [startTrigger]
@[simp] theorem startTrigger_freeIndex (l : Lane) (s : State) : (startTrigger l s).freeIndex = s.freeIndex := by simp [startTrigger]
@[simp] theorem startTrigger_pending (l : Lane) (s : State) : (startTrigger l s).pending = s.pending := by simp [startTrigger]

/-! finishTest -/

@[simp] theorem finishTest_powered (l : Lane) (a : List Axle) (q : Seq) (s : State) : (finishTest l a q s).powered = s.powered := by unfold finishTest; (repeat' split) <;> simp
@[simp] theorem finishTest_clock (l : Lane) (a : List Axle) (q : Seq) (s : State) : (finishTest l a q s).clock = s.clock := by unfold finishTest; (repeat' split) <;> simp
@[simp] theorem finishTest_pins (l : Lane) (a : List Axle) (q : Seq) (s : State) : (finishTest l a q s).pins = s.pins := by unfold finishTest; (repeat' split) <;> simp
@[simp] theorem finishTest_xf (l : Lane) (a : List Axle) (q : Seq) (s : State) : (finishTest l a q s).xf = s.xf := by unfold finishTest; (repeat' split) <;> simp
@[simp] theorem finishTest_ptu (l : Lane) (a : List Axle) (q : Seq) (s : State) : (finishTest l a q s).ptu = s.ptu := by unfold finishTest; (repeat' split) <;> simp
@[simp] theorem finishTest_va (l : Lane) (a : List Axle) (q : Seq) (s : State) : (finishTest l a q s).va = s.va := by unfold finishTest; (repeat' split) <;> simp
@[simp] theorem finishTest_cle (l : Lane) (a : List Axle) (q : Seq) (s : State) : (finishTest l a q s).cle = s.cle := by unfold finishTest; (repeat' split) <;> simp
@[simp] theorem finishTest_rr (l : Lane) (a : List Axle) (q : Seq) (s : State) : (finishTest l a q s).rr = s.rr := by unfold finishTest; (repeat' split) <;> simp
@[simp] theorem finishTest_cc (l : Lane) (a : List Axle) (q : Seq) (s : State) : (finishTest l a q s).cc = s.cc := by unfold finishTest; (repeat' split) <;> simp
@[simp] theorem finishTest_early (l : Lane) (a : List Axle) (q : Seq) (s : State) : (finishTest l a q s).early = s.early := by unfold finishTest; (repeat' split) <;> simp
@[simp] theorem finishTest_freeIndex (l : Lane) (a : List Axle) (q : Seq) (s : State) : (finishTest l a q s).freeIndex = s.freeIndex := by unfold finishTest; (repeat' split) <;> simp
@[simp] theorem finishTest_pending (l : Lane) (a : List Axle) (q : Seq) (s : State) : (finishTest l a q s).pending = s.pending := by unfold finishTest; (repeat' split) <;> simp

/-! closeVehicle -/

@[simp] theorem closeVehicle_powered (l : Lane) (f : Flags) (s : State) : (closeVehicle l f s).powered = s.powered := by unfold closeVehicle; dsimp only; (repeat' split) <;> simp
@[simp] theorem closeVehicle_clock (l : Lane) (f : Flags) (s : State) : (closeVehicle l f s).clock = s.clock := by unfold closeVehicle; dsimp only; (repeat' split) <;> simp
@[simp] theorem closeVehicle_pins (l : Lane) (f : Flags) (s : State) : (closeVehicle l f s).pins = s.pins := by unfold closeVehicle; dsimp only; (repeat' split) <;> simp
@[simp] theorem closeVehicle_xf (l : Lane) (f : Flags) (s : State) : (closeVehicle l f s).xf = s.xf := by unfold closeVehicle; dsimp only; (repeat' split) <;> simp
@[simp] theorem closeVehicle_ptu (l : Lane) (f : Flags) (s : State) : (closeVehicle l f s).ptu = s.ptu := by unfold closeVehicle; dsimp only; (repeat' split) <;> simp
@[simp] theorem closeVehicle_cc (l : Lane) (f : Flags) (s : State) : (closeVehicle l f s).cc = s.cc := by unfold closeVehicle; dsimp only; (repeat' split) <;> simp
@[simp] theorem closeVehicle_early (l : Lane) (f : Flags) (s : State) : (closeVehicle l f s).early = s.early := by unfold closeVehicle; dsimp only; (repeat' split) <;> simp
@[simp] theorem closeVehicle_freeIndex (l : Lane) (f : Flags) (s : State) : (closeVehicle l f s).freeIndex = s.freeIndex := by unfold closeVehicle; dsimp only; (repeat' split) <;> simp
@[simp] theorem closeVehicle_pending (l : Lane) (f : Flags) (s : State) : (closeVehicle l f s).pending = s.pending := by unfold closeVehicle; dsimp only; (repeat' split) <;> simp

/-! markVehicleOpened -/

@[simp] theorem markVehicleOpened_powered (l : Lane) (s : State) : (markVehicleOpened l s).powered = s.powered := by unfold markVehicleOpened; (repeat' split) <;> simp
@[simp] theorem markVehicleOpened_clock (l : Lane) (s : State) : (markVehicleOpened l s).clock = s.clock := by unfold markVehicleOpened; (repeat' split) <;> simp
@[simp] theorem markVehicleOpened_pins (l : Lane) (s : State) : (markVehicleOpened l s).pins = s.pins := by unfold markVehicleOpened; (repeat' split) <;> simp
@[simp] theorem markVehicleOpened_sfe (l : Lane) (s : State) : (markVehicleOpened l s).sfe = s.sfe := by unfold markVehicleOpened; (repeat' split) <;> simp
@[simp] theorem markVehicleOpened_xf (l : Lane) (s : State) : (markVehicleOpened l s).xf = s.xf := by unfold markVehicleOpened; (repeat' split) <;> simp
@[simp] theorem markVehicleOpened_ptu (l : Lane) (s : State) : (markVehicleOpened l s).ptu = s.ptu := by unfold markVehicleOpened; (repeat' split) <;> simp
@[simp] theorem markVehicleOpened_va (l : Lane) (s : State) : (markVehicleOpened l s).va = s.va := by unfold markVehicleOpened; (repeat' split) <;> simp
@[simp] theorem markVehicleOpened_cle (l : Lane) (s : State) : (markVehicleOpened l s).cle = s.cle := by unfold markVehicleOpened; (repeat' split) <;> simp
@[simp] theorem markVehicleOpened_rr (l : Lane) (s : State) : (markVehicleOpened l s).rr = s.rr := by unfold markVehicleOpened; (repeat' split) <;> simp
@[simp] theorem markVehicleOpened_cc (l : Lane) (s : State) : (markVehicleOpened l s).cc = s.cc := by unfold markVehicleOpened; (repeat' split) <;> simp
@[simp] theorem markVehicleOpened_ports (l : Lane) (s : State) : (markVehicleOpened l s).ports = s.ports := by unfold markVehicleOpened; (repeat' split) <;> simp
@[simp] theorem markVehicleOpened_early (l : Lane) (s : State) : (markVehicleOpened l s).early = s.early := by unfold markVehicleOpened; (repeat' split) <;> simp
@[simp] theorem markVehicleOpened_freeIndex (l : Lane) (s : State) : (markVehicleOpened l s).freeIndex = s.freeIndex := by unfold markVehicleOpened; (repeat' split) <;> simp
@[simp] theorem markVehicleOpened_pending (l : Lane) (s : State) : (markVehicleOpened l s).pending = s.pending := by unfold markVehicleOpened; (repeat' split) <;> simp

/-! openVehicle -/

@[simp] theorem openVehicle_powered (l : Lane) (c : Context) (s : State) : (openVehicle l c s).powered = s.powered := by simp [openVehicle]
@[simp] theorem openVehicle_clock (l : Lane) (c : Context) (s : State) : (openVehicle l c s).clock = s.clock := by simp [openVehicle]
@[simp] theorem openVehicle_pins (l : Lane) (c : Context) (s : State) : (openVehicle l c s).pins = s.pins := by simp [openVehicle]
@[simp] theorem openVehicle_sfe (l : Lane) (c : Context) (s : State) : (openVehicle l c s).sfe = s.sfe := by simp [openVehicle]
@[simp] theorem openVehicle_xf (l : Lane) (c : Context) (s : State) : (openVehicle l c s).xf = s.xf := by simp [openVehicle]
@[simp] theorem openVehicle_ptu (l : Lane) (c : Context) (s : State) : (openVehicle l c s).ptu = s.ptu := by simp [openVehicle]
@[simp] theorem openVehicle_cle (l : Lane) (c : Context) (s : State) : (openVehicle l c s).cle = s.cle := by simp [openVehicle]
@[simp] theorem openVehicle_rr (l : Lane) (c : Context) (s : State) : (openVehicle l c s).rr = s.rr := by simp [openVehicle]
@[simp] theorem openVehicle_cc (l : Lane) (c : Context) (s : State) : (openVehicle l c s).cc = s.cc := by simp [openVehicle]
@[simp] theorem openVehicle_ports (l : Lane) (c : Context) (s : State) : (openVehicle l c s).ports = s.ports := by simp [openVehicle]
@[simp] theorem openVehicle_early (l : Lane) (c : Context) (s : State) : (openVehicle l c s).early = s.early := by simp [openVehicle]
@[simp] theorem openVehicle_freeIndex (l : Lane) (c : Context) (s : State) : (openVehicle l c s).freeIndex = s.freeIndex := by simp [openVehicle]
@[simp] theorem openVehicle_pending (l : Lane) (c : Context) (s : State) : (openVehicle l c s).pending = s.pending := by simp [openVehicle]

/-! openByPresence -/

@[simp] theorem openByPresence_powered (l : Lane) (t : Time) (x : Stamp) (s : State) : (openByPresence l t x s).powered = s.powered := by simp [openByPresence]
@[simp] theorem openByPresence_clock (l : Lane) (t : Time) (x : Stamp) (s : State) : (openByPresence l t x s).clock = s.clock := by simp [openByPresence]
@[simp] theorem openByPresence_pins (l : Lane) (t : Time) (x : Stamp) (s : State) : (openByPresence l t x s).pins = s.pins := by simp [openByPresence]
@[simp] theorem openByPresence_sfe (l : Lane) (t : Time) (x : Stamp) (s : State) : (openByPresence l t x s).sfe = s.sfe := by simp [openByPresence]
@[simp] theorem openByPresence_xf (l : Lane) (t : Time) (x : Stamp) (s : State) : (openByPresence l t x s).xf = s.xf := by simp [openByPresence]
@[simp] theorem openByPresence_ptu (l : Lane) (t : Time) (x : Stamp) (s : State) : (openByPresence l t x s).ptu = s.ptu := by simp [openByPresence]
@[simp] theorem openByPresence_cle (l : Lane) (t : Time) (x : Stamp) (s : State) : (openByPresence l t x s).cle = s.cle := by simp [openByPresence]
@[simp] theorem openByPresence_rr (l : Lane) (t : Time) (x : Stamp) (s : State) : (openByPresence l t x s).rr = s.rr := by simp [openByPresence]
@[simp] theorem openByPresence_cc (l : Lane) (t : Time) (x : Stamp) (s : State) : (openByPresence l t x s).cc = s.cc := by simp [openByPresence]
@[simp] theorem openByPresence_ports (l : Lane) (t : Time) (x : Stamp) (s : State) : (openByPresence l t x s).ports = s.ports := by simp [openByPresence]
@[simp] theorem openByPresence_early (l : Lane) (t : Time) (x : Stamp) (s : State) : (openByPresence l t x s).early = s.early := by simp [openByPresence]
@[simp] theorem openByPresence_freeIndex (l : Lane) (t : Time) (x : Stamp) (s : State) : (openByPresence l t x s).freeIndex = s.freeIndex := by simp [openByPresence]
@[simp] theorem openByPresence_pending (l : Lane) (t : Time) (x : Stamp) (s : State) : (openByPresence l t x s).pending = s.pending := by simp [openByPresence]

/-! openByAxle -/

@[simp] theorem openByAxle_powered (l : Lane) (a : Axle) (u : Option (Time × Stamp)) (k : Bool) (s : State) : (openByAxle l a u k s).powered = s.powered := by simp [openByAxle]
@[simp] theorem openByAxle_clock (l : Lane) (a : Axle) (u : Option (Time × Stamp)) (k : Bool) (s : State) : (openByAxle l a u k s).clock = s.clock := by simp [openByAxle]
@[simp] theorem openByAxle_pins (l : Lane) (a : Axle) (u : Option (Time × Stamp)) (k : Bool) (s : State) : (openByAxle l a u k s).pins = s.pins := by simp [openByAxle]
@[simp] theorem openByAxle_sfe (l : Lane) (a : Axle) (u : Option (Time × Stamp)) (k : Bool) (s : State) : (openByAxle l a u k s).sfe = s.sfe := by simp [openByAxle]
@[simp] theorem openByAxle_xf (l : Lane) (a : Axle) (u : Option (Time × Stamp)) (k : Bool) (s : State) : (openByAxle l a u k s).xf = s.xf := by simp [openByAxle]
@[simp] theorem openByAxle_ptu (l : Lane) (a : Axle) (u : Option (Time × Stamp)) (k : Bool) (s : State) : (openByAxle l a u k s).ptu = s.ptu := by simp [openByAxle]
@[simp] theorem openByAxle_cle (l : Lane) (a : Axle) (u : Option (Time × Stamp)) (k : Bool) (s : State) : (openByAxle l a u k s).cle = s.cle := by simp [openByAxle]
@[simp] theorem openByAxle_rr (l : Lane) (a : Axle) (u : Option (Time × Stamp)) (k : Bool) (s : State) : (openByAxle l a u k s).rr = s.rr := by simp [openByAxle]
@[simp] theorem openByAxle_cc (l : Lane) (a : Axle) (u : Option (Time × Stamp)) (k : Bool) (s : State) : (openByAxle l a u k s).cc = s.cc := by simp [openByAxle]
@[simp] theorem openByAxle_ports (l : Lane) (a : Axle) (u : Option (Time × Stamp)) (k : Bool) (s : State) : (openByAxle l a u k s).ports = s.ports := by simp [openByAxle]
@[simp] theorem openByAxle_early (l : Lane) (a : Axle) (u : Option (Time × Stamp)) (k : Bool) (s : State) : (openByAxle l a u k s).early = s.early := by simp [openByAxle]
@[simp] theorem openByAxle_freeIndex (l : Lane) (a : Axle) (u : Option (Time × Stamp)) (k : Bool) (s : State) : (openByAxle l a u k s).freeIndex = s.freeIndex := by simp [openByAxle]
@[simp] theorem openByAxle_pending (l : Lane) (a : Axle) (u : Option (Time × Stamp)) (k : Bool) (s : State) : (openByAxle l a u k s).pending = s.pending := by simp [openByAxle]

/-! closeAndReopen -/

@[simp] theorem closeAndReopen_powered (l : Lane) (a : Axle) (f : Flags) (k : Bool) (s : State) : (closeAndReopen l a f k s).powered = s.powered := by simp [closeAndReopen]
@[simp] theorem closeAndReopen_clock (l : Lane) (a : Axle) (f : Flags) (k : Bool) (s : State) : (closeAndReopen l a f k s).clock = s.clock := by simp [closeAndReopen]
@[simp] theorem closeAndReopen_pins (l : Lane) (a : Axle) (f : Flags) (k : Bool) (s : State) : (closeAndReopen l a f k s).pins = s.pins := by simp [closeAndReopen]
@[simp] theorem closeAndReopen_xf (l : Lane) (a : Axle) (f : Flags) (k : Bool) (s : State) : (closeAndReopen l a f k s).xf = s.xf := by simp [closeAndReopen]
@[simp] theorem closeAndReopen_ptu (l : Lane) (a : Axle) (f : Flags) (k : Bool) (s : State) : (closeAndReopen l a f k s).ptu = s.ptu := by simp [closeAndReopen]
@[simp] theorem closeAndReopen_cc (l : Lane) (a : Axle) (f : Flags) (k : Bool) (s : State) : (closeAndReopen l a f k s).cc = s.cc := by simp [closeAndReopen]
@[simp] theorem closeAndReopen_early (l : Lane) (a : Axle) (f : Flags) (k : Bool) (s : State) : (closeAndReopen l a f k s).early = s.early := by simp [closeAndReopen]
@[simp] theorem closeAndReopen_freeIndex (l : Lane) (a : Axle) (f : Flags) (k : Bool) (s : State) : (closeAndReopen l a f k s).freeIndex = s.freeIndex := by simp [closeAndReopen]
@[simp] theorem closeAndReopen_pending (l : Lane) (a : Axle) (f : Flags) (k : Bool) (s : State) : (closeAndReopen l a f k s).pending = s.pending := by simp [closeAndReopen]

/-! appendAxle -/

@[simp] theorem appendAxle_powered (l : Lane) (a : Axle) (s : State) : (appendAxle l a s).powered = s.powered := by simp [appendAxle]
@[simp] theorem appendAxle_clock (l : Lane) (a : Axle) (s : State) : (appendAxle l a s).clock = s.clock := by simp [appendAxle]
@[simp] theorem appendAxle_pins (l : Lane) (a : Axle) (s : State) : (appendAxle l a s).pins = s.pins := by simp [appendAxle]
@[simp] theorem appendAxle_sfe (l : Lane) (a : Axle) (s : State) : (appendAxle l a s).sfe = s.sfe := by simp [appendAxle]
@[simp] theorem appendAxle_xf (l : Lane) (a : Axle) (s : State) : (appendAxle l a s).xf = s.xf := by simp [appendAxle]
@[simp] theorem appendAxle_ptu (l : Lane) (a : Axle) (s : State) : (appendAxle l a s).ptu = s.ptu := by simp [appendAxle]
@[simp] theorem appendAxle_cle (l : Lane) (a : Axle) (s : State) : (appendAxle l a s).cle = s.cle := by simp [appendAxle]
@[simp] theorem appendAxle_rr (l : Lane) (a : Axle) (s : State) : (appendAxle l a s).rr = s.rr := by simp [appendAxle]
@[simp] theorem appendAxle_cc (l : Lane) (a : Axle) (s : State) : (appendAxle l a s).cc = s.cc := by simp [appendAxle]
@[simp] theorem appendAxle_ltg (l : Lane) (a : Axle) (s : State) : (appendAxle l a s).ltg = s.ltg := by simp [appendAxle]
@[simp] theorem appendAxle_ports (l : Lane) (a : Axle) (s : State) : (appendAxle l a s).ports = s.ports := by simp [appendAxle]
@[simp] theorem appendAxle_early (l : Lane) (a : Axle) (s : State) : (appendAxle l a s).early = s.early := by simp [appendAxle]
@[simp] theorem appendAxle_freeIndex (l : Lane) (a : Axle) (s : State) : (appendAxle l a s).freeIndex = s.freeIndex := by simp [appendAxle]
@[simp] theorem appendAxle_pending (l : Lane) (a : Axle) (s : State) : (appendAxle l a s).pending = s.pending := by simp [appendAxle]

/-! axleArrives -/

@[simp] theorem axleArrives_powered (l : Lane) (a : Axle) (s : State) : (axleArrives l a s).powered = s.powered := by unfold axleArrives; dsimp only; (repeat' split) <;> simp
@[simp] theorem axleArrives_clock (l : Lane) (a : Axle) (s : State) : (axleArrives l a s).clock = s.clock := by unfold axleArrives; dsimp only; (repeat' split) <;> simp
@[simp] theorem axleArrives_pins (l : Lane) (a : Axle) (s : State) : (axleArrives l a s).pins = s.pins := by unfold axleArrives; dsimp only; (repeat' split) <;> simp
@[simp] theorem axleArrives_xf (l : Lane) (a : Axle) (s : State) : (axleArrives l a s).xf = s.xf := by unfold axleArrives; dsimp only; (repeat' split) <;> simp
@[simp] theorem axleArrives_ptu (l : Lane) (a : Axle) (s : State) : (axleArrives l a s).ptu = s.ptu := by unfold axleArrives; dsimp only; (repeat' split) <;> simp
@[simp] theorem axleArrives_cc (l : Lane) (a : Axle) (s : State) : (axleArrives l a s).cc = s.cc := by unfold axleArrives; dsimp only; (repeat' split) <;> simp
@[simp] theorem axleArrives_early (l : Lane) (a : Axle) (s : State) : (axleArrives l a s).early = s.early := by unfold axleArrives; dsimp only; (repeat' split) <;> simp
@[simp] theorem axleArrives_freeIndex (l : Lane) (a : Axle) (s : State) : (axleArrives l a s).freeIndex = s.freeIndex := by unfold axleArrives; dsimp only; (repeat' split) <;> simp
@[simp] theorem axleArrives_pending (l : Lane) (a : Axle) (s : State) : (axleArrives l a s).pending = s.pending := by unfold axleArrives; dsimp only; (repeat' split) <;> simp

/-! takeOccupied -/

@[simp] theorem takeOccupied_powered (l : Lane) (s : State) : (takeOccupied l s).powered = s.powered := by unfold takeOccupied; dsimp only; (repeat' split) <;> simp
@[simp] theorem takeOccupied_clock (l : Lane) (s : State) : (takeOccupied l s).clock = s.clock := by unfold takeOccupied; dsimp only; (repeat' split) <;> simp
@[simp] theorem takeOccupied_pins (l : Lane) (s : State) : (takeOccupied l s).pins = s.pins := by unfold takeOccupied; dsimp only; (repeat' split) <;> simp
@[simp] theorem takeOccupied_ptu (l : Lane) (s : State) : (takeOccupied l s).ptu = s.ptu := by unfold takeOccupied; dsimp only; (repeat' split) <;> simp
@[simp] theorem takeOccupied_cle (l : Lane) (s : State) : (takeOccupied l s).cle = s.cle := by unfold takeOccupied; dsimp only; (repeat' split) <;> simp
@[simp] theorem takeOccupied_rr (l : Lane) (s : State) : (takeOccupied l s).rr = s.rr := by unfold takeOccupied; dsimp only; (repeat' split) <;> simp
@[simp] theorem takeOccupied_cc (l : Lane) (s : State) : (takeOccupied l s).cc = s.cc := by unfold takeOccupied; dsimp only; (repeat' split) <;> simp
@[simp] theorem takeOccupied_early (l : Lane) (s : State) : (takeOccupied l s).early = s.early := by unfold takeOccupied; dsimp only; (repeat' split) <;> simp
@[simp] theorem takeOccupied_freeIndex (l : Lane) (s : State) : (takeOccupied l s).freeIndex = s.freeIndex := by unfold takeOccupied; dsimp only; (repeat' split) <;> simp
@[simp] theorem takeOccupied_pending (l : Lane) (s : State) : (takeOccupied l s).pending = s.pending := by unfold takeOccupied; dsimp only; (repeat' split) <;> simp

/-! takeReleased -/

@[simp] theorem takeReleased_powered (l : Lane) (s : State) : (takeReleased l s).powered = s.powered := by unfold takeReleased; dsimp only; (repeat' split) <;> simp
@[simp] theorem takeReleased_clock (l : Lane) (s : State) : (takeReleased l s).clock = s.clock := by unfold takeReleased; dsimp only; (repeat' split) <;> simp
@[simp] theorem takeReleased_pins (l : Lane) (s : State) : (takeReleased l s).pins = s.pins := by unfold takeReleased; dsimp only; (repeat' split) <;> simp
@[simp] theorem takeReleased_sfe (l : Lane) (s : State) : (takeReleased l s).sfe = s.sfe := by unfold takeReleased; dsimp only; (repeat' split) <;> simp
@[simp] theorem takeReleased_xf (l : Lane) (s : State) : (takeReleased l s).xf = s.xf := by unfold takeReleased; dsimp only; (repeat' split) <;> simp
@[simp] theorem takeReleased_ptu (l : Lane) (s : State) : (takeReleased l s).ptu = s.ptu := by unfold takeReleased; dsimp only; (repeat' split) <;> simp
@[simp] theorem takeReleased_cle (l : Lane) (s : State) : (takeReleased l s).cle = s.cle := by unfold takeReleased; dsimp only; (repeat' split) <;> simp
@[simp] theorem takeReleased_rr (l : Lane) (s : State) : (takeReleased l s).rr = s.rr := by unfold takeReleased; dsimp only; (repeat' split) <;> simp
@[simp] theorem takeReleased_cc (l : Lane) (s : State) : (takeReleased l s).cc = s.cc := by unfold takeReleased; dsimp only; (repeat' split) <;> simp
@[simp] theorem takeReleased_ltg (l : Lane) (s : State) : (takeReleased l s).ltg = s.ltg := by unfold takeReleased; dsimp only; (repeat' split) <;> simp
@[simp] theorem takeReleased_ports (l : Lane) (s : State) : (takeReleased l s).ports = s.ports := by unfold takeReleased; dsimp only; (repeat' split) <;> simp
@[simp] theorem takeReleased_early (l : Lane) (s : State) : (takeReleased l s).early = s.early := by unfold takeReleased; dsimp only; (repeat' split) <;> simp
@[simp] theorem takeReleased_freeIndex (l : Lane) (s : State) : (takeReleased l s).freeIndex = s.freeIndex := by unfold takeReleased; dsimp only; (repeat' split) <;> simp
@[simp] theorem takeReleased_pending (l : Lane) (s : State) : (takeReleased l s).pending = s.pending := by unfold takeReleased; dsimp only; (repeat' split) <;> simp

/-! rereadPresence -/

@[simp] theorem rereadPresence_powered (l : Lane) (s : State) : (rereadPresence l s).powered = s.powered := by unfold rereadPresence; (repeat' split) <;> simp
@[simp] theorem rereadPresence_clock (l : Lane) (s : State) : (rereadPresence l s).clock = s.clock := by unfold rereadPresence; (repeat' split) <;> simp
@[simp] theorem rereadPresence_pins (l : Lane) (s : State) : (rereadPresence l s).pins = s.pins := by unfold rereadPresence; (repeat' split) <;> simp
@[simp] theorem rereadPresence_ptu (l : Lane) (s : State) : (rereadPresence l s).ptu = s.ptu := by unfold rereadPresence; (repeat' split) <;> simp
@[simp] theorem rereadPresence_cle (l : Lane) (s : State) : (rereadPresence l s).cle = s.cle := by unfold rereadPresence; (repeat' split) <;> simp
@[simp] theorem rereadPresence_rr (l : Lane) (s : State) : (rereadPresence l s).rr = s.rr := by unfold rereadPresence; (repeat' split) <;> simp
@[simp] theorem rereadPresence_cc (l : Lane) (s : State) : (rereadPresence l s).cc = s.cc := by unfold rereadPresence; (repeat' split) <;> simp
@[simp] theorem rereadPresence_early (l : Lane) (s : State) : (rereadPresence l s).early = s.early := by unfold rereadPresence; (repeat' split) <;> simp
@[simp] theorem rereadPresence_freeIndex (l : Lane) (s : State) : (rereadPresence l s).freeIndex = s.freeIndex := by unfold rereadPresence; (repeat' split) <;> simp
@[simp] theorem rereadPresence_pending (l : Lane) (s : State) : (rereadPresence l s).pending = s.pending := by unfold rereadPresence; (repeat' split) <;> simp

/-! openSuccessor -/

@[simp] theorem openSuccessor_powered (l : Lane) (u : Option (Time × Stamp)) (s : State) : (openSuccessor l u s).powered = s.powered := by unfold openSuccessor; (repeat' split) <;> simp
@[simp] theorem openSuccessor_clock (l : Lane) (u : Option (Time × Stamp)) (s : State) : (openSuccessor l u s).clock = s.clock := by unfold openSuccessor; (repeat' split) <;> simp
@[simp] theorem openSuccessor_pins (l : Lane) (u : Option (Time × Stamp)) (s : State) : (openSuccessor l u s).pins = s.pins := by unfold openSuccessor; (repeat' split) <;> simp
@[simp] theorem openSuccessor_sfe (l : Lane) (u : Option (Time × Stamp)) (s : State) : (openSuccessor l u s).sfe = s.sfe := by unfold openSuccessor; (repeat' split) <;> simp
@[simp] theorem openSuccessor_xf (l : Lane) (u : Option (Time × Stamp)) (s : State) : (openSuccessor l u s).xf = s.xf := by unfold openSuccessor; (repeat' split) <;> simp
@[simp] theorem openSuccessor_ptu (l : Lane) (u : Option (Time × Stamp)) (s : State) : (openSuccessor l u s).ptu = s.ptu := by unfold openSuccessor; (repeat' split) <;> simp
@[simp] theorem openSuccessor_cle (l : Lane) (u : Option (Time × Stamp)) (s : State) : (openSuccessor l u s).cle = s.cle := by unfold openSuccessor; (repeat' split) <;> simp
@[simp] theorem openSuccessor_rr (l : Lane) (u : Option (Time × Stamp)) (s : State) : (openSuccessor l u s).rr = s.rr := by unfold openSuccessor; (repeat' split) <;> simp
@[simp] theorem openSuccessor_cc (l : Lane) (u : Option (Time × Stamp)) (s : State) : (openSuccessor l u s).cc = s.cc := by unfold openSuccessor; (repeat' split) <;> simp
@[simp] theorem openSuccessor_ports (l : Lane) (u : Option (Time × Stamp)) (s : State) : (openSuccessor l u s).ports = s.ports := by unfold openSuccessor; (repeat' split) <;> simp
@[simp] theorem openSuccessor_early (l : Lane) (u : Option (Time × Stamp)) (s : State) : (openSuccessor l u s).early = s.early := by unfold openSuccessor; (repeat' split) <;> simp
@[simp] theorem openSuccessor_freeIndex (l : Lane) (u : Option (Time × Stamp)) (s : State) : (openSuccessor l u s).freeIndex = s.freeIndex := by unfold openSuccessor; (repeat' split) <;> simp
@[simp] theorem openSuccessor_pending (l : Lane) (u : Option (Time × Stamp)) (s : State) : (openSuccessor l u s).pending = s.pending := by unfold openSuccessor; (repeat' split) <;> simp

/-! closeDelayExpires -/

@[simp] theorem closeDelayExpires_powered (l : Lane) (s : State) : (closeDelayExpires l s).powered = s.powered := by simp [closeDelayExpires]
@[simp] theorem closeDelayExpires_clock (l : Lane) (s : State) : (closeDelayExpires l s).clock = s.clock := by simp [closeDelayExpires]
@[simp] theorem closeDelayExpires_pins (l : Lane) (s : State) : (closeDelayExpires l s).pins = s.pins := by simp [closeDelayExpires]
@[simp] theorem closeDelayExpires_xf (l : Lane) (s : State) : (closeDelayExpires l s).xf = s.xf := by simp [closeDelayExpires]
@[simp] theorem closeDelayExpires_ptu (l : Lane) (s : State) : (closeDelayExpires l s).ptu = s.ptu := by simp [closeDelayExpires]
@[simp] theorem closeDelayExpires_cc (l : Lane) (s : State) : (closeDelayExpires l s).cc = s.cc := by simp [closeDelayExpires]
@[simp] theorem closeDelayExpires_early (l : Lane) (s : State) : (closeDelayExpires l s).early = s.early := by simp [closeDelayExpires]
@[simp] theorem closeDelayExpires_freeIndex (l : Lane) (s : State) : (closeDelayExpires l s).freeIndex = s.freeIndex := by simp [closeDelayExpires]
@[simp] theorem closeDelayExpires_pending (l : Lane) (s : State) : (closeDelayExpires l s).pending = s.pending := by simp [closeDelayExpires]

/-! durationExpires -/

@[simp] theorem durationExpires_powered (l : Lane) (s : State) : (durationExpires l s).powered = s.powered := by unfold durationExpires; dsimp only; (repeat' split) <;> simp
@[simp] theorem durationExpires_clock (l : Lane) (s : State) : (durationExpires l s).clock = s.clock := by unfold durationExpires; dsimp only; (repeat' split) <;> simp
@[simp] theorem durationExpires_pins (l : Lane) (s : State) : (durationExpires l s).pins = s.pins := by unfold durationExpires; dsimp only; (repeat' split) <;> simp
@[simp] theorem durationExpires_xf (l : Lane) (s : State) : (durationExpires l s).xf = s.xf := by unfold durationExpires; dsimp only; (repeat' split) <;> simp
@[simp] theorem durationExpires_ptu (l : Lane) (s : State) : (durationExpires l s).ptu = s.ptu := by unfold durationExpires; dsimp only; (repeat' split) <;> simp
@[simp] theorem durationExpires_cc (l : Lane) (s : State) : (durationExpires l s).cc = s.cc := by unfold durationExpires; dsimp only; (repeat' split) <;> simp
@[simp] theorem durationExpires_early (l : Lane) (s : State) : (durationExpires l s).early = s.early := by unfold durationExpires; dsimp only; (repeat' split) <;> simp
@[simp] theorem durationExpires_freeIndex (l : Lane) (s : State) : (durationExpires l s).freeIndex = s.freeIndex := by unfold durationExpires; dsimp only; (repeat' split) <;> simp
@[simp] theorem durationExpires_pending (l : Lane) (s : State) : (durationExpires l s).pending = s.pending := by unfold durationExpires; dsimp only; (repeat' split) <;> simp

/-! noteEmptied -/

@[simp] theorem noteEmptied_powered (s : State) : (noteEmptied s).powered = s.powered := by unfold noteEmptied; (repeat' split) <;> simp
@[simp] theorem noteEmptied_clock (s : State) : (noteEmptied s).clock = s.clock := by unfold noteEmptied; (repeat' split) <;> simp
@[simp] theorem noteEmptied_pins (s : State) : (noteEmptied s).pins = s.pins := by unfold noteEmptied; (repeat' split) <;> simp
@[simp] theorem noteEmptied_sfe (s : State) : (noteEmptied s).sfe = s.sfe := by unfold noteEmptied; (repeat' split) <;> simp
@[simp] theorem noteEmptied_xf (s : State) : (noteEmptied s).xf = s.xf := by unfold noteEmptied; (repeat' split) <;> simp
@[simp] theorem noteEmptied_ptu (s : State) : (noteEmptied s).ptu = s.ptu := by unfold noteEmptied; (repeat' split) <;> simp
@[simp] theorem noteEmptied_va (s : State) : (noteEmptied s).va = s.va := by unfold noteEmptied; (repeat' split) <;> simp
@[simp] theorem noteEmptied_cle (s : State) : (noteEmptied s).cle = s.cle := by unfold noteEmptied; (repeat' split) <;> simp
@[simp] theorem noteEmptied_rr (s : State) : (noteEmptied s).rr = s.rr := by unfold noteEmptied; (repeat' split) <;> simp
@[simp] theorem noteEmptied_ltg (s : State) : (noteEmptied s).ltg = s.ltg := by unfold noteEmptied; (repeat' split) <;> simp
@[simp] theorem noteEmptied_ports (s : State) : (noteEmptied s).ports = s.ports := by unfold noteEmptied; (repeat' split) <;> simp
@[simp] theorem noteEmptied_early (s : State) : (noteEmptied s).early = s.early := by unfold noteEmptied; (repeat' split) <;> simp
@[simp] theorem noteEmptied_freeIndex (s : State) : (noteEmptied s).freeIndex = s.freeIndex := by unfold noteEmptied; (repeat' split) <;> simp
@[simp] theorem noteEmptied_pending (s : State) : (noteEmptied s).pending = s.pending := by unfold noteEmptied; (repeat' split) <;> simp

/-! handOnAxle -/

@[simp] theorem handOnAxle_powered (f : FormedAxle) (s : State) : (handOnAxle f s).powered = s.powered := by simp [handOnAxle]
@[simp] theorem handOnAxle_clock (f : FormedAxle) (s : State) : (handOnAxle f s).clock = s.clock := by simp [handOnAxle]
@[simp] theorem handOnAxle_pins (f : FormedAxle) (s : State) : (handOnAxle f s).pins = s.pins := by simp [handOnAxle]
@[simp] theorem handOnAxle_xf (f : FormedAxle) (s : State) : (handOnAxle f s).xf = s.xf := by simp [handOnAxle]
@[simp] theorem handOnAxle_ptu (f : FormedAxle) (s : State) : (handOnAxle f s).ptu = s.ptu := by simp [handOnAxle]
@[simp] theorem handOnAxle_cc (f : FormedAxle) (s : State) : (handOnAxle f s).cc = s.cc := by simp [handOnAxle]
@[simp] theorem handOnAxle_early (f : FormedAxle) (s : State) : (handOnAxle f s).early = s.early := by simp [handOnAxle]
@[simp] theorem handOnAxle_freeIndex (f : FormedAxle) (s : State) : (handOnAxle f s).freeIndex = s.freeIndex := by simp [handOnAxle]
@[simp] theorem handOnAxle_pending (f : FormedAxle) (s : State) : (handOnAxle f s).pending = s.pending := by simp [handOnAxle]

/-! expireQueue -/

@[simp] theorem expireQueue_powered (l : Lane) (s : State) : (expireQueue l s).powered = s.powered := by simp [expireQueue]
@[simp] theorem expireQueue_clock (l : Lane) (s : State) : (expireQueue l s).clock = s.clock := by simp [expireQueue]
@[simp] theorem expireQueue_pins (l : Lane) (s : State) : (expireQueue l s).pins = s.pins := by simp [expireQueue]
@[simp] theorem expireQueue_sfe (l : Lane) (s : State) : (expireQueue l s).sfe = s.sfe := by simp [expireQueue]
@[simp] theorem expireQueue_ptu (l : Lane) (s : State) : (expireQueue l s).ptu = s.ptu := by simp [expireQueue]
@[simp] theorem expireQueue_va (l : Lane) (s : State) : (expireQueue l s).va = s.va := by simp [expireQueue]
@[simp] theorem expireQueue_cle (l : Lane) (s : State) : (expireQueue l s).cle = s.cle := by simp [expireQueue]
@[simp] theorem expireQueue_rr (l : Lane) (s : State) : (expireQueue l s).rr = s.rr := by simp [expireQueue]
@[simp] theorem expireQueue_cc (l : Lane) (s : State) : (expireQueue l s).cc = s.cc := by simp [expireQueue]
@[simp] theorem expireQueue_ltg (l : Lane) (s : State) : (expireQueue l s).ltg = s.ltg := by simp [expireQueue]
@[simp] theorem expireQueue_ports (l : Lane) (s : State) : (expireQueue l s).ports = s.ports := by simp [expireQueue]
@[simp] theorem expireQueue_early (l : Lane) (s : State) : (expireQueue l s).early = s.early := by simp [expireQueue]
@[simp] theorem expireQueue_freeIndex (l : Lane) (s : State) : (expireQueue l s).freeIndex = s.freeIndex := by simp [expireQueue]
@[simp] theorem expireQueue_pending (l : Lane) (s : State) : (expireQueue l s).pending = s.pending := by simp [expireQueue]

/-! joinRowA -/

@[simp] theorem joinRowA_powered (x : Crossing) (s : State) : (joinRowA x s).powered = s.powered := by unfold joinRowA; dsimp only; (repeat' split) <;> simp
@[simp] theorem joinRowA_clock (x : Crossing) (s : State) : (joinRowA x s).clock = s.clock := by unfold joinRowA; dsimp only; (repeat' split) <;> simp
@[simp] theorem joinRowA_pins (x : Crossing) (s : State) : (joinRowA x s).pins = s.pins := by unfold joinRowA; dsimp only; (repeat' split) <;> simp
@[simp] theorem joinRowA_sfe (x : Crossing) (s : State) : (joinRowA x s).sfe = s.sfe := by unfold joinRowA; dsimp only; (repeat' split) <;> simp
@[simp] theorem joinRowA_ptu (x : Crossing) (s : State) : (joinRowA x s).ptu = s.ptu := by unfold joinRowA; dsimp only; (repeat' split) <;> simp
@[simp] theorem joinRowA_va (x : Crossing) (s : State) : (joinRowA x s).va = s.va := by unfold joinRowA; dsimp only; (repeat' split) <;> simp
@[simp] theorem joinRowA_cle (x : Crossing) (s : State) : (joinRowA x s).cle = s.cle := by unfold joinRowA; dsimp only; (repeat' split) <;> simp
@[simp] theorem joinRowA_rr (x : Crossing) (s : State) : (joinRowA x s).rr = s.rr := by unfold joinRowA; dsimp only; (repeat' split) <;> simp
@[simp] theorem joinRowA_cc (x : Crossing) (s : State) : (joinRowA x s).cc = s.cc := by unfold joinRowA; dsimp only; (repeat' split) <;> simp
@[simp] theorem joinRowA_ltg (x : Crossing) (s : State) : (joinRowA x s).ltg = s.ltg := by unfold joinRowA; dsimp only; (repeat' split) <;> simp
@[simp] theorem joinRowA_ports (x : Crossing) (s : State) : (joinRowA x s).ports = s.ports := by unfold joinRowA; dsimp only; (repeat' split) <;> simp
@[simp] theorem joinRowA_early (x : Crossing) (s : State) : (joinRowA x s).early = s.early := by unfold joinRowA; dsimp only; (repeat' split) <;> simp
@[simp] theorem joinRowA_freeIndex (x : Crossing) (s : State) : (joinRowA x s).freeIndex = s.freeIndex := by unfold joinRowA; dsimp only; (repeat' split) <;> simp
@[simp] theorem joinRowA_pending (x : Crossing) (s : State) : (joinRowA x s).pending = s.pending := by unfold joinRowA; dsimp only; (repeat' split) <;> simp

/-! matchRowB -/

@[simp] theorem matchRowB_powered (b : Crossing) (q : List Crossing) (s : State) : (matchRowB b q s).powered = s.powered := by
  induction q generalizing s with
  | nil => simp [matchRowB]
  | cons h q ih => unfold matchRowB; dsimp only; (repeat' split) <;> simp [ih]
@[simp] theorem matchRowB_clock (b : Crossing) (q : List Crossing) (s : State) : (matchRowB b q s).clock = s.clock := by
  induction q generalizing s with
  | nil => simp [matchRowB]
  | cons h q ih => unfold matchRowB; dsimp only; (repeat' split) <;> simp [ih]
@[simp] theorem matchRowB_pins (b : Crossing) (q : List Crossing) (s : State) : (matchRowB b q s).pins = s.pins := by
  induction q generalizing s with
  | nil => simp [matchRowB]
  | cons h q ih => unfold matchRowB; dsimp only; (repeat' split) <;> simp [ih]
@[simp] theorem matchRowB_ptu (b : Crossing) (q : List Crossing) (s : State) : (matchRowB b q s).ptu = s.ptu := by
  induction q generalizing s with
  | nil => simp [matchRowB]
  | cons h q ih => unfold matchRowB; dsimp only; (repeat' split) <;> simp [ih]
@[simp] theorem matchRowB_cc (b : Crossing) (q : List Crossing) (s : State) : (matchRowB b q s).cc = s.cc := by
  induction q generalizing s with
  | nil => simp [matchRowB]
  | cons h q ih => unfold matchRowB; dsimp only; (repeat' split) <;> simp [ih]
@[simp] theorem matchRowB_early (b : Crossing) (q : List Crossing) (s : State) : (matchRowB b q s).early = s.early := by
  induction q generalizing s with
  | nil => simp [matchRowB]
  | cons h q ih => unfold matchRowB; dsimp only; (repeat' split) <;> simp [ih]
@[simp] theorem matchRowB_freeIndex (b : Crossing) (q : List Crossing) (s : State) : (matchRowB b q s).freeIndex = s.freeIndex := by
  induction q generalizing s with
  | nil => simp [matchRowB]
  | cons h q ih => unfold matchRowB; dsimp only; (repeat' split) <;> simp [ih]
@[simp] theorem matchRowB_pending (b : Crossing) (q : List Crossing) (s : State) : (matchRowB b q s).pending = s.pending := by
  induction q generalizing s with
  | nil => simp [matchRowB]
  | cons h q ih => unfold matchRowB; dsimp only; (repeat' split) <;> simp [ih]

/-! meetRowB -/

@[simp] theorem meetRowB_powered (b : Crossing) (s : State) : (meetRowB b s).powered = s.powered := by simp [meetRowB]
@[simp] theorem meetRowB_clock (b : Crossing) (s : State) : (meetRowB b s).clock = s.clock := by simp [meetRowB]
@[simp] theorem meetRowB_pins (b : Crossing) (s : State) : (meetRowB b s).pins = s.pins := by simp [meetRowB]
@[simp] theorem meetRowB_ptu (b : Crossing) (s : State) : (meetRowB b s).ptu = s.ptu := by simp [meetRowB]
@[simp] theorem meetRowB_cc (b : Crossing) (s : State) : (meetRowB b s).cc = s.cc := by simp [meetRowB]
@[simp] theorem meetRowB_early (b : Crossing) (s : State) : (meetRowB b s).early = s.early := by simp [meetRowB]
@[simp] theorem meetRowB_freeIndex (b : Crossing) (s : State) : (meetRowB b s).freeIndex = s.freeIndex := by simp [meetRowB]
@[simp] theorem meetRowB_pending (b : Crossing) (s : State) : (meetRowB b s).pending = s.pending := by simp [meetRowB]

/-! routeCrossing -/

@[simp] theorem routeCrossing_powered (x : Crossing) (s : State) : (routeCrossing x s).powered = s.powered := by unfold routeCrossing; (repeat' split) <;> simp
@[simp] theorem routeCrossing_clock (x : Crossing) (s : State) : (routeCrossing x s).clock = s.clock := by unfold routeCrossing; (repeat' split) <;> simp
@[simp] theorem routeCrossing_pins (x : Crossing) (s : State) : (routeCrossing x s).pins = s.pins := by unfold routeCrossing; (repeat' split) <;> simp
@[simp] theorem routeCrossing_ptu (x : Crossing) (s : State) : (routeCrossing x s).ptu = s.ptu := by unfold routeCrossing; (repeat' split) <;> simp
@[simp] theorem routeCrossing_cc (x : Crossing) (s : State) : (routeCrossing x s).cc = s.cc := by unfold routeCrossing; (repeat' split) <;> simp
@[simp] theorem routeCrossing_early (x : Crossing) (s : State) : (routeCrossing x s).early = s.early := by unfold routeCrossing; (repeat' split) <;> simp
@[simp] theorem routeCrossing_freeIndex (x : Crossing) (s : State) : (routeCrossing x s).freeIndex = s.freeIndex := by unfold routeCrossing; (repeat' split) <;> simp
@[simp] theorem routeCrossing_pending (x : Crossing) (s : State) : (routeCrossing x s).pending = s.pending := by unfold routeCrossing; (repeat' split) <;> simp

/-! decideHit -/

@[simp] theorem decideHit_powered (h : PoolHit) (s : State) : (decideHit h s).powered = s.powered := by unfold decideHit; dsimp only; (repeat' split) <;> simp
@[simp] theorem decideHit_clock (h : PoolHit) (s : State) : (decideHit h s).clock = s.clock := by unfold decideHit; dsimp only; (repeat' split) <;> simp
@[simp] theorem decideHit_pins (h : PoolHit) (s : State) : (decideHit h s).pins = s.pins := by unfold decideHit; dsimp only; (repeat' split) <;> simp
@[simp] theorem decideHit_ptu (h : PoolHit) (s : State) : (decideHit h s).ptu = s.ptu := by unfold decideHit; dsimp only; (repeat' split) <;> simp
@[simp] theorem decideHit_cc (h : PoolHit) (s : State) : (decideHit h s).cc = s.cc := by unfold decideHit; dsimp only; (repeat' split) <;> simp
@[simp] theorem decideHit_early (h : PoolHit) (s : State) : (decideHit h s).early = s.early := by unfold decideHit; dsimp only; (repeat' split) <;> simp
@[simp] theorem decideHit_freeIndex (h : PoolHit) (s : State) : (decideHit h s).freeIndex = s.freeIndex := by unfold decideHit; dsimp only; (repeat' split) <;> simp
@[simp] theorem decideHit_pending (h : PoolHit) (s : State) : (decideHit h s).pending = s.pending := by unfold decideHit; dsimp only; (repeat' split) <;> simp

/-! joinPool -/

@[simp] theorem joinPool_powered (h : PoolHit) (s : State) : (joinPool h s).powered = s.powered := by unfold joinPool; dsimp only; (repeat' split) <;> simp
@[simp] theorem joinPool_clock (h : PoolHit) (s : State) : (joinPool h s).clock = s.clock := by unfold joinPool; dsimp only; (repeat' split) <;> simp
@[simp] theorem joinPool_pins (h : PoolHit) (s : State) : (joinPool h s).pins = s.pins := by unfold joinPool; dsimp only; (repeat' split) <;> simp
@[simp] theorem joinPool_ptu (h : PoolHit) (s : State) : (joinPool h s).ptu = s.ptu := by unfold joinPool; dsimp only; (repeat' split) <;> simp
@[simp] theorem joinPool_cc (h : PoolHit) (s : State) : (joinPool h s).cc = s.cc := by unfold joinPool; dsimp only; (repeat' split) <;> simp
@[simp] theorem joinPool_early (h : PoolHit) (s : State) : (joinPool h s).early = s.early := by unfold joinPool; dsimp only; (repeat' split) <;> simp
@[simp] theorem joinPool_freeIndex (h : PoolHit) (s : State) : (joinPool h s).freeIndex = s.freeIndex := by unfold joinPool; dsimp only; (repeat' split) <;> simp
@[simp] theorem joinPool_pending (h : PoolHit) (s : State) : (joinPool h s).pending = s.pending := by unfold joinPool; dsimp only; (repeat' split) <;> simp

/-! settlingCompletes -/

@[simp] theorem settlingCompletes_powered (c : ChannelId) (s : State) : (settlingCompletes c s).powered = s.powered := by simp [settlingCompletes]
@[simp] theorem settlingCompletes_clock (c : ChannelId) (s : State) : (settlingCompletes c s).clock = s.clock := by simp [settlingCompletes]
@[simp] theorem settlingCompletes_pins (c : ChannelId) (s : State) : (settlingCompletes c s).pins = s.pins := by simp [settlingCompletes]
@[simp] theorem settlingCompletes_xf (c : ChannelId) (s : State) : (settlingCompletes c s).xf = s.xf := by simp [settlingCompletes]
@[simp] theorem settlingCompletes_ptu (c : ChannelId) (s : State) : (settlingCompletes c s).ptu = s.ptu := by simp [settlingCompletes]
@[simp] theorem settlingCompletes_va (c : ChannelId) (s : State) : (settlingCompletes c s).va = s.va := by simp [settlingCompletes]
@[simp] theorem settlingCompletes_cle (c : ChannelId) (s : State) : (settlingCompletes c s).cle = s.cle := by simp [settlingCompletes]
@[simp] theorem settlingCompletes_rr (c : ChannelId) (s : State) : (settlingCompletes c s).rr = s.rr := by simp [settlingCompletes]
@[simp] theorem settlingCompletes_cc (c : ChannelId) (s : State) : (settlingCompletes c s).cc = s.cc := by simp [settlingCompletes]
@[simp] theorem settlingCompletes_ltg (c : ChannelId) (s : State) : (settlingCompletes c s).ltg = s.ltg := by simp [settlingCompletes]
@[simp] theorem settlingCompletes_ports (c : ChannelId) (s : State) : (settlingCompletes c s).ports = s.ports := by simp [settlingCompletes]
@[simp] theorem settlingCompletes_early (c : ChannelId) (s : State) : (settlingCompletes c s).early = s.early := by simp [settlingCompletes]
@[simp] theorem settlingCompletes_freeIndex (c : ChannelId) (s : State) : (settlingCompletes c s).freeIndex = s.freeIndex := by simp [settlingCompletes]
@[simp] theorem settlingCompletes_pending (c : ChannelId) (s : State) : (settlingCompletes c s).pending = s.pending := by simp [settlingCompletes]

/-! hitEnds -/

@[simp] theorem hitEnds_powered (c : ChannelId) (s : State) : (hitEnds c s).powered = s.powered := by unfold hitEnds; dsimp only; (repeat' split) <;> simp
@[simp] theorem hitEnds_clock (c : ChannelId) (s : State) : (hitEnds c s).clock = s.clock := by unfold hitEnds; dsimp only; (repeat' split) <;> simp
@[simp] theorem hitEnds_pins (c : ChannelId) (s : State) : (hitEnds c s).pins = s.pins := by unfold hitEnds; dsimp only; (repeat' split) <;> simp
@[simp] theorem hitEnds_ptu (c : ChannelId) (s : State) : (hitEnds c s).ptu = s.ptu := by unfold hitEnds; dsimp only; (repeat' split) <;> simp
@[simp] theorem hitEnds_cc (c : ChannelId) (s : State) : (hitEnds c s).cc = s.cc := by unfold hitEnds; dsimp only; (repeat' split) <;> simp
@[simp] theorem hitEnds_early (c : ChannelId) (s : State) : (hitEnds c s).early = s.early := by unfold hitEnds; dsimp only; (repeat' split) <;> simp
@[simp] theorem hitEnds_freeIndex (c : ChannelId) (s : State) : (hitEnds c s).freeIndex = s.freeIndex := by unfold hitEnds; dsimp only; (repeat' split) <;> simp
@[simp] theorem hitEnds_pending (c : ChannelId) (s : State) : (hitEnds c s).pending = s.pending := by unfold hitEnds; dsimp only; (repeat' split) <;> simp

/-! markHeld -/

@[simp] theorem markHeld_powered (l : Lane) (s : State) : (markHeld l s).powered = s.powered := by unfold markHeld; (repeat' split) <;> simp
@[simp] theorem markHeld_clock (l : Lane) (s : State) : (markHeld l s).clock = s.clock := by unfold markHeld; (repeat' split) <;> simp
@[simp] theorem markHeld_pins (l : Lane) (s : State) : (markHeld l s).pins = s.pins := by unfold markHeld; (repeat' split) <;> simp
@[simp] theorem markHeld_sfe (l : Lane) (s : State) : (markHeld l s).sfe = s.sfe := by unfold markHeld; (repeat' split) <;> simp
@[simp] theorem markHeld_xf (l : Lane) (s : State) : (markHeld l s).xf = s.xf := by unfold markHeld; (repeat' split) <;> simp
@[simp] theorem markHeld_ptu (l : Lane) (s : State) : (markHeld l s).ptu = s.ptu := by unfold markHeld; (repeat' split) <;> simp
@[simp] theorem markHeld_cle (l : Lane) (s : State) : (markHeld l s).cle = s.cle := by unfold markHeld; (repeat' split) <;> simp
@[simp] theorem markHeld_rr (l : Lane) (s : State) : (markHeld l s).rr = s.rr := by unfold markHeld; (repeat' split) <;> simp
@[simp] theorem markHeld_cc (l : Lane) (s : State) : (markHeld l s).cc = s.cc := by unfold markHeld; (repeat' split) <;> simp
@[simp] theorem markHeld_ltg (l : Lane) (s : State) : (markHeld l s).ltg = s.ltg := by unfold markHeld; (repeat' split) <;> simp
@[simp] theorem markHeld_ports (l : Lane) (s : State) : (markHeld l s).ports = s.ports := by unfold markHeld; (repeat' split) <;> simp
@[simp] theorem markHeld_early (l : Lane) (s : State) : (markHeld l s).early = s.early := by unfold markHeld; (repeat' split) <;> simp
@[simp] theorem markHeld_freeIndex (l : Lane) (s : State) : (markHeld l s).freeIndex = s.freeIndex := by unfold markHeld; (repeat' split) <;> simp
@[simp] theorem markHeld_pending (l : Lane) (s : State) : (markHeld l s).pending = s.pending := by unfold markHeld; (repeat' split) <;> simp

/-! hitOverruns -/

@[simp] theorem hitOverruns_powered (c : ChannelId) (s : State) : (hitOverruns c s).powered = s.powered := by simp [hitOverruns]
@[simp] theorem hitOverruns_clock (c : ChannelId) (s : State) : (hitOverruns c s).clock = s.clock := by simp [hitOverruns]
@[simp] theorem hitOverruns_pins (c : ChannelId) (s : State) : (hitOverruns c s).pins = s.pins := by simp [hitOverruns]
@[simp] theorem hitOverruns_xf (c : ChannelId) (s : State) : (hitOverruns c s).xf = s.xf := by simp [hitOverruns]
@[simp] theorem hitOverruns_ptu (c : ChannelId) (s : State) : (hitOverruns c s).ptu = s.ptu := by simp [hitOverruns]
@[simp] theorem hitOverruns_cle (c : ChannelId) (s : State) : (hitOverruns c s).cle = s.cle := by simp [hitOverruns]
@[simp] theorem hitOverruns_rr (c : ChannelId) (s : State) : (hitOverruns c s).rr = s.rr := by simp [hitOverruns]
@[simp] theorem hitOverruns_cc (c : ChannelId) (s : State) : (hitOverruns c s).cc = s.cc := by simp [hitOverruns]
@[simp] theorem hitOverruns_ltg (c : ChannelId) (s : State) : (hitOverruns c s).ltg = s.ltg := by simp [hitOverruns]
@[simp] theorem hitOverruns_early (c : ChannelId) (s : State) : (hitOverruns c s).early = s.early := by simp [hitOverruns]
@[simp] theorem hitOverruns_freeIndex (c : ChannelId) (s : State) : (hitOverruns c s).freeIndex = s.freeIndex := by simp [hitOverruns]
@[simp] theorem hitOverruns_pending (c : ChannelId) (s : State) : (hitOverruns c s).pending = s.pending := by simp [hitOverruns]

/-! holdEnds -/

@[simp] theorem holdEnds_powered (c : ChannelId) (s : State) : (holdEnds c s).powered = s.powered := by simp [holdEnds]
@[simp] theorem holdEnds_clock (c : ChannelId) (s : State) : (holdEnds c s).clock = s.clock := by simp [holdEnds]
@[simp] theorem holdEnds_pins (c : ChannelId) (s : State) : (holdEnds c s).pins = s.pins := by simp [holdEnds]
@[simp] theorem holdEnds_xf (c : ChannelId) (s : State) : (holdEnds c s).xf = s.xf := by simp [holdEnds]
@[simp] theorem holdEnds_ptu (c : ChannelId) (s : State) : (holdEnds c s).ptu = s.ptu := by simp [holdEnds]
@[simp] theorem holdEnds_va (c : ChannelId) (s : State) : (holdEnds c s).va = s.va := by simp [holdEnds]
@[simp] theorem holdEnds_cle (c : ChannelId) (s : State) : (holdEnds c s).cle = s.cle := by simp [holdEnds]
@[simp] theorem holdEnds_rr (c : ChannelId) (s : State) : (holdEnds c s).rr = s.rr := by simp [holdEnds]
@[simp] theorem holdEnds_cc (c : ChannelId) (s : State) : (holdEnds c s).cc = s.cc := by simp [holdEnds]
@[simp] theorem holdEnds_ltg (c : ChannelId) (s : State) : (holdEnds c s).ltg = s.ltg := by simp [holdEnds]
@[simp] theorem holdEnds_ports (c : ChannelId) (s : State) : (holdEnds c s).ports = s.ports := by simp [holdEnds]
@[simp] theorem holdEnds_early (c : ChannelId) (s : State) : (holdEnds c s).early = s.early := by simp [holdEnds]
@[simp] theorem holdEnds_freeIndex (c : ChannelId) (s : State) : (holdEnds c s).freeIndex = s.freeIndex := by simp [holdEnds]
@[simp] theorem holdEnds_pending (c : ChannelId) (s : State) : (holdEnds c s).pending = s.pending := by simp [holdEnds]

/-! secondPasses -/

@[simp] theorem secondPasses_powered (s : State) : (secondPasses s).powered = s.powered := by unfold secondPasses; dsimp only; (repeat' split) <;> simp
@[simp] theorem secondPasses_pins (s : State) : (secondPasses s).pins = s.pins := by unfold secondPasses; dsimp only; (repeat' split) <;> simp
@[simp] theorem secondPasses_sfe (s : State) : (secondPasses s).sfe = s.sfe := by unfold secondPasses; dsimp only; (repeat' split) <;> simp
@[simp] theorem secondPasses_xf (s : State) : (secondPasses s).xf = s.xf := by unfold secondPasses; dsimp only; (repeat' split) <;> simp
@[simp] theorem secondPasses_va (s : State) : (secondPasses s).va = s.va := by unfold secondPasses; dsimp only; (repeat' split) <;> simp
@[simp] theorem secondPasses_cle (s : State) : (secondPasses s).cle = s.cle := by unfold secondPasses; dsimp only; (repeat' split) <;> simp
@[simp] theorem secondPasses_rr (s : State) : (secondPasses s).rr = s.rr := by unfold secondPasses; dsimp only; (repeat' split) <;> simp
@[simp] theorem secondPasses_cc (s : State) : (secondPasses s).cc = s.cc := by unfold secondPasses; dsimp only; (repeat' split) <;> simp
@[simp] theorem secondPasses_ltg (s : State) : (secondPasses s).ltg = s.ltg := by unfold secondPasses; dsimp only; (repeat' split) <;> simp
@[simp] theorem secondPasses_early (s : State) : (secondPasses s).early = s.early := by unfold secondPasses; dsimp only; (repeat' split) <;> simp
@[simp] theorem secondPasses_freeIndex (s : State) : (secondPasses s).freeIndex = s.freeIndex := by unfold secondPasses; dsimp only; (repeat' split) <;> simp
@[simp] theorem secondPasses_pending (s : State) : (secondPasses s).pending = s.pending := by unfold secondPasses; dsimp only; (repeat' split) <;> simp

/-! revertEdits -/

@[simp] theorem revertEdits_powered (s : State) : (revertEdits s).powered = s.powered := by simp [revertEdits]
@[simp] theorem revertEdits_clock (s : State) : (revertEdits s).clock = s.clock := by simp [revertEdits]
@[simp] theorem revertEdits_pins (s : State) : (revertEdits s).pins = s.pins := by simp [revertEdits]
@[simp] theorem revertEdits_sfe (s : State) : (revertEdits s).sfe = s.sfe := by simp [revertEdits]
@[simp] theorem revertEdits_xf (s : State) : (revertEdits s).xf = s.xf := by simp [revertEdits]
@[simp] theorem revertEdits_ptu (s : State) : (revertEdits s).ptu = s.ptu := by simp [revertEdits]
@[simp] theorem revertEdits_va (s : State) : (revertEdits s).va = s.va := by simp [revertEdits]
@[simp] theorem revertEdits_cle (s : State) : (revertEdits s).cle = s.cle := by simp [revertEdits]
@[simp] theorem revertEdits_rr (s : State) : (revertEdits s).rr = s.rr := by simp [revertEdits]
@[simp] theorem revertEdits_ltg (s : State) : (revertEdits s).ltg = s.ltg := by simp [revertEdits]
@[simp] theorem revertEdits_ports (s : State) : (revertEdits s).ports = s.ports := by simp [revertEdits]
@[simp] theorem revertEdits_early (s : State) : (revertEdits s).early = s.early := by simp [revertEdits]
@[simp] theorem revertEdits_freeIndex (s : State) : (revertEdits s).freeIndex = s.freeIndex := by simp [revertEdits]
@[simp] theorem revertEdits_pending (s : State) : (revertEdits s).pending = s.pending := by simp [revertEdits]

/-! claimExpires -/

@[simp] theorem claimExpires_powered (s : State) : (claimExpires s).powered = s.powered := by simp [claimExpires]
@[simp] theorem claimExpires_clock (s : State) : (claimExpires s).clock = s.clock := by simp [claimExpires]
@[simp] theorem claimExpires_pins (s : State) : (claimExpires s).pins = s.pins := by simp [claimExpires]
@[simp] theorem claimExpires_sfe (s : State) : (claimExpires s).sfe = s.sfe := by simp [claimExpires]
@[simp] theorem claimExpires_xf (s : State) : (claimExpires s).xf = s.xf := by simp [claimExpires]
@[simp] theorem claimExpires_ptu (s : State) : (claimExpires s).ptu = s.ptu := by simp [claimExpires]
@[simp] theorem claimExpires_va (s : State) : (claimExpires s).va = s.va := by simp [claimExpires]
@[simp] theorem claimExpires_cle (s : State) : (claimExpires s).cle = s.cle := by simp [claimExpires]
@[simp] theorem claimExpires_rr (s : State) : (claimExpires s).rr = s.rr := by simp [claimExpires]
@[simp] theorem claimExpires_ltg (s : State) : (claimExpires s).ltg = s.ltg := by simp [claimExpires]
@[simp] theorem claimExpires_early (s : State) : (claimExpires s).early = s.early := by simp [claimExpires]
@[simp] theorem claimExpires_freeIndex (s : State) : (claimExpires s).freeIndex = s.freeIndex := by simp [claimExpires]
@[simp] theorem claimExpires_pending (s : State) : (claimExpires s).pending = s.pending := by simp [claimExpires]

/-! commitTimesOut -/

@[simp] theorem commitTimesOut_powered (s : State) : (commitTimesOut s).powered = s.powered := by simp [commitTimesOut]
@[simp] theorem commitTimesOut_clock (s : State) : (commitTimesOut s).clock = s.clock := by simp [commitTimesOut]
@[simp] theorem commitTimesOut_pins (s : State) : (commitTimesOut s).pins = s.pins := by simp [commitTimesOut]
@[simp] theorem commitTimesOut_sfe (s : State) : (commitTimesOut s).sfe = s.sfe := by simp [commitTimesOut]
@[simp] theorem commitTimesOut_xf (s : State) : (commitTimesOut s).xf = s.xf := by simp [commitTimesOut]
@[simp] theorem commitTimesOut_ptu (s : State) : (commitTimesOut s).ptu = s.ptu := by simp [commitTimesOut]
@[simp] theorem commitTimesOut_va (s : State) : (commitTimesOut s).va = s.va := by simp [commitTimesOut]
@[simp] theorem commitTimesOut_cle (s : State) : (commitTimesOut s).cle = s.cle := by simp [commitTimesOut]
@[simp] theorem commitTimesOut_rr (s : State) : (commitTimesOut s).rr = s.rr := by simp [commitTimesOut]
@[simp] theorem commitTimesOut_ltg (s : State) : (commitTimesOut s).ltg = s.ltg := by simp [commitTimesOut]
@[simp] theorem commitTimesOut_ports (s : State) : (commitTimesOut s).ports = s.ports := by simp [commitTimesOut]
@[simp] theorem commitTimesOut_early (s : State) : (commitTimesOut s).early = s.early := by simp [commitTimesOut]
@[simp] theorem commitTimesOut_freeIndex (s : State) : (commitTimesOut s).freeIndex = s.freeIndex := by simp [commitTimesOut]
@[simp] theorem commitTimesOut_pending (s : State) : (commitTimesOut s).pending = s.pending := by simp [commitTimesOut]

/-! activateSfe -/

@[simp] theorem activateSfe_powered (o : CalSet) (s : State) : (activateSfe o s).powered = s.powered := by simp [activateSfe]
@[simp] theorem activateSfe_clock (o : CalSet) (s : State) : (activateSfe o s).clock = s.clock := by simp [activateSfe]
@[simp] theorem activateSfe_pins (o : CalSet) (s : State) : (activateSfe o s).pins = s.pins := by simp [activateSfe]
@[simp] theorem activateSfe_xf (o : CalSet) (s : State) : (activateSfe o s).xf = s.xf := by simp [activateSfe]
@[simp] theorem activateSfe_ptu (o : CalSet) (s : State) : (activateSfe o s).ptu = s.ptu := by simp [activateSfe]
@[simp] theorem activateSfe_va (o : CalSet) (s : State) : (activateSfe o s).va = s.va := by simp [activateSfe]
@[simp] theorem activateSfe_cle (o : CalSet) (s : State) : (activateSfe o s).cle = s.cle := by simp [activateSfe]
@[simp] theorem activateSfe_rr (o : CalSet) (s : State) : (activateSfe o s).rr = s.rr := by simp [activateSfe]
@[simp] theorem activateSfe_cc (o : CalSet) (s : State) : (activateSfe o s).cc = s.cc := by simp [activateSfe]
@[simp] theorem activateSfe_ltg (o : CalSet) (s : State) : (activateSfe o s).ltg = s.ltg := by simp [activateSfe]
@[simp] theorem activateSfe_ports (o : CalSet) (s : State) : (activateSfe o s).ports = s.ports := by simp [activateSfe]
@[simp] theorem activateSfe_early (o : CalSet) (s : State) : (activateSfe o s).early = s.early := by simp [activateSfe]
@[simp] theorem activateSfe_freeIndex (o : CalSet) (s : State) : (activateSfe o s).freeIndex = s.freeIndex := by simp [activateSfe]
@[simp] theorem activateSfe_pending (o : CalSet) (s : State) : (activateSfe o s).pending = s.pending := by simp [activateSfe]

/-! activateXf -/

@[simp] theorem activateXf_powered (s : State) : (activateXf s).powered = s.powered := by
  simp [activateXf, Ix4.all]
@[simp] theorem activateXf_clock (s : State) : (activateXf s).clock = s.clock := by
  simp [activateXf, Ix4.all]
@[simp] theorem activateXf_pins (s : State) : (activateXf s).pins = s.pins := by
  simp [activateXf, Ix4.all]
@[simp] theorem activateXf_sfe (s : State) : (activateXf s).sfe = s.sfe := by
  simp [activateXf, Ix4.all]
@[simp] theorem activateXf_ptu (s : State) : (activateXf s).ptu = s.ptu := by
  simp [activateXf, Ix4.all]
@[simp] theorem activateXf_va (s : State) : (activateXf s).va = s.va := by
  simp [activateXf, Ix4.all]
@[simp] theorem activateXf_cle (s : State) : (activateXf s).cle = s.cle := by
  simp [activateXf, Ix4.all]
@[simp] theorem activateXf_rr (s : State) : (activateXf s).rr = s.rr := by
  simp [activateXf, Ix4.all]
@[simp] theorem activateXf_cc (s : State) : (activateXf s).cc = s.cc := by
  simp [activateXf, Ix4.all]
@[simp] theorem activateXf_ltg (s : State) : (activateXf s).ltg = s.ltg := by
  simp [activateXf, Ix4.all]
@[simp] theorem activateXf_ports (s : State) : (activateXf s).ports = s.ports := by
  simp [activateXf, Ix4.all]
@[simp] theorem activateXf_early (s : State) : (activateXf s).early = s.early := by
  simp [activateXf, Ix4.all]
@[simp] theorem activateXf_freeIndex (s : State) : (activateXf s).freeIndex = s.freeIndex := by
  simp [activateXf, Ix4.all]
@[simp] theorem activateXf_pending (s : State) : (activateXf s).pending = s.pending := by
  simp [activateXf, Ix4.all]

/-! activatePtu -/

@[simp] theorem activatePtu_powered (o : CalSet) (s : State) : (activatePtu o s).powered = s.powered := by simp [activatePtu]
@[simp] theorem activatePtu_clock (o : CalSet) (s : State) : (activatePtu o s).clock = s.clock := by simp [activatePtu]
@[simp] theorem activatePtu_pins (o : CalSet) (s : State) : (activatePtu o s).pins = s.pins := by simp [activatePtu]
@[simp] theorem activatePtu_sfe (o : CalSet) (s : State) : (activatePtu o s).sfe = s.sfe := by simp [activatePtu]
@[simp] theorem activatePtu_xf (o : CalSet) (s : State) : (activatePtu o s).xf = s.xf := by simp [activatePtu]
@[simp] theorem activatePtu_va (o : CalSet) (s : State) : (activatePtu o s).va = s.va := by simp [activatePtu]
@[simp] theorem activatePtu_cle (o : CalSet) (s : State) : (activatePtu o s).cle = s.cle := by simp [activatePtu]
@[simp] theorem activatePtu_rr (o : CalSet) (s : State) : (activatePtu o s).rr = s.rr := by simp [activatePtu]
@[simp] theorem activatePtu_cc (o : CalSet) (s : State) : (activatePtu o s).cc = s.cc := by simp [activatePtu]
@[simp] theorem activatePtu_ltg (o : CalSet) (s : State) : (activatePtu o s).ltg = s.ltg := by simp [activatePtu]
@[simp] theorem activatePtu_ports (o : CalSet) (s : State) : (activatePtu o s).ports = s.ports := by simp [activatePtu]
@[simp] theorem activatePtu_early (o : CalSet) (s : State) : (activatePtu o s).early = s.early := by simp [activatePtu]
@[simp] theorem activatePtu_freeIndex (o : CalSet) (s : State) : (activatePtu o s).freeIndex = s.freeIndex := by simp [activatePtu]
@[simp] theorem activatePtu_pending (o : CalSet) (s : State) : (activatePtu o s).pending = s.pending := by simp [activatePtu]

/-! markCalChanged -/

@[simp] theorem markCalChanged_powered (s : State) : (markCalChanged s).powered = s.powered := by simp [markCalChanged]
@[simp] theorem markCalChanged_clock (s : State) : (markCalChanged s).clock = s.clock := by simp [markCalChanged]
@[simp] theorem markCalChanged_pins (s : State) : (markCalChanged s).pins = s.pins := by simp [markCalChanged]
@[simp] theorem markCalChanged_sfe (s : State) : (markCalChanged s).sfe = s.sfe := by simp [markCalChanged]
@[simp] theorem markCalChanged_xf (s : State) : (markCalChanged s).xf = s.xf := by simp [markCalChanged]
@[simp] theorem markCalChanged_ptu (s : State) : (markCalChanged s).ptu = s.ptu := by simp [markCalChanged]
@[simp] theorem markCalChanged_cle (s : State) : (markCalChanged s).cle = s.cle := by simp [markCalChanged]
@[simp] theorem markCalChanged_rr (s : State) : (markCalChanged s).rr = s.rr := by simp [markCalChanged]
@[simp] theorem markCalChanged_cc (s : State) : (markCalChanged s).cc = s.cc := by simp [markCalChanged]
@[simp] theorem markCalChanged_ltg (s : State) : (markCalChanged s).ltg = s.ltg := by simp [markCalChanged]
@[simp] theorem markCalChanged_ports (s : State) : (markCalChanged s).ports = s.ports := by simp [markCalChanged]
@[simp] theorem markCalChanged_early (s : State) : (markCalChanged s).early = s.early := by simp [markCalChanged]
@[simp] theorem markCalChanged_freeIndex (s : State) : (markCalChanged s).freeIndex = s.freeIndex := by simp [markCalChanged]
@[simp] theorem markCalChanged_pending (s : State) : (markCalChanged s).pending = s.pending := by simp [markCalChanged]

/-! activateDuration -/

@[simp] theorem activateDuration_powered (l : Lane) (s : State) : (activateDuration l s).powered = s.powered := by unfold activateDuration; (repeat' split) <;> simp
@[simp] theorem activateDuration_clock (l : Lane) (s : State) : (activateDuration l s).clock = s.clock := by unfold activateDuration; (repeat' split) <;> simp
@[simp] theorem activateDuration_pins (l : Lane) (s : State) : (activateDuration l s).pins = s.pins := by unfold activateDuration; (repeat' split) <;> simp
@[simp] theorem activateDuration_xf (l : Lane) (s : State) : (activateDuration l s).xf = s.xf := by unfold activateDuration; (repeat' split) <;> simp
@[simp] theorem activateDuration_ptu (l : Lane) (s : State) : (activateDuration l s).ptu = s.ptu := by unfold activateDuration; (repeat' split) <;> simp
@[simp] theorem activateDuration_cc (l : Lane) (s : State) : (activateDuration l s).cc = s.cc := by unfold activateDuration; (repeat' split) <;> simp
@[simp] theorem activateDuration_early (l : Lane) (s : State) : (activateDuration l s).early = s.early := by unfold activateDuration; (repeat' split) <;> simp
@[simp] theorem activateDuration_freeIndex (l : Lane) (s : State) : (activateDuration l s).freeIndex = s.freeIndex := by unfold activateDuration; (repeat' split) <;> simp
@[simp] theorem activateDuration_pending (l : Lane) (s : State) : (activateDuration l s).pending = s.pending := by unfold activateDuration; (repeat' split) <;> simp

/-! activatePolarity -/

@[simp] theorem activatePolarity_powered (o : CalSet) (l : Lane) (s : State) : (activatePolarity o l s).powered = s.powered := by unfold activatePolarity; (repeat' split) <;> simp
@[simp] theorem activatePolarity_clock (o : CalSet) (l : Lane) (s : State) : (activatePolarity o l s).clock = s.clock := by unfold activatePolarity; (repeat' split) <;> simp
@[simp] theorem activatePolarity_pins (o : CalSet) (l : Lane) (s : State) : (activatePolarity o l s).pins = s.pins := by unfold activatePolarity; (repeat' split) <;> simp
@[simp] theorem activatePolarity_ptu (o : CalSet) (l : Lane) (s : State) : (activatePolarity o l s).ptu = s.ptu := by unfold activatePolarity; (repeat' split) <;> simp
@[simp] theorem activatePolarity_cc (o : CalSet) (l : Lane) (s : State) : (activatePolarity o l s).cc = s.cc := by unfold activatePolarity; (repeat' split) <;> simp
@[simp] theorem activatePolarity_early (o : CalSet) (l : Lane) (s : State) : (activatePolarity o l s).early = s.early := by unfold activatePolarity; (repeat' split) <;> simp
@[simp] theorem activatePolarity_freeIndex (o : CalSet) (l : Lane) (s : State) : (activatePolarity o l s).freeIndex = s.freeIndex := by unfold activatePolarity; (repeat' split) <;> simp
@[simp] theorem activatePolarity_pending (o : CalSet) (l : Lane) (s : State) : (activatePolarity o l s).pending = s.pending := by unfold activatePolarity; (repeat' split) <;> simp

/-! activateVa -/

@[simp] theorem activateVa_powered (o : CalSet) (s : State) : (activateVa o s).powered = s.powered := by
  simp [activateVa, Ix4.all]
@[simp] theorem activateVa_clock (o : CalSet) (s : State) : (activateVa o s).clock = s.clock := by
  simp [activateVa, Ix4.all]
@[simp] theorem activateVa_pins (o : CalSet) (s : State) : (activateVa o s).pins = s.pins := by
  simp [activateVa, Ix4.all]
@[simp] theorem activateVa_ptu (o : CalSet) (s : State) : (activateVa o s).ptu = s.ptu := by
  simp [activateVa, Ix4.all]
@[simp] theorem activateVa_cc (o : CalSet) (s : State) : (activateVa o s).cc = s.cc := by
  simp [activateVa, Ix4.all]
@[simp] theorem activateVa_early (o : CalSet) (s : State) : (activateVa o s).early = s.early := by
  simp [activateVa, Ix4.all]
@[simp] theorem activateVa_freeIndex (o : CalSet) (s : State) : (activateVa o s).freeIndex = s.freeIndex := by
  simp [activateVa, Ix4.all]
@[simp] theorem activateVa_pending (o : CalSet) (s : State) : (activateVa o s).pending = s.pending := by
  simp [activateVa, Ix4.all]

/-! startPersist -/

@[simp] theorem startPersist_powered (s : State) : (startPersist s).powered = s.powered := by simp [startPersist]
@[simp] theorem startPersist_clock (s : State) : (startPersist s).clock = s.clock := by simp [startPersist]
@[simp] theorem startPersist_pins (s : State) : (startPersist s).pins = s.pins := by simp [startPersist]
@[simp] theorem startPersist_sfe (s : State) : (startPersist s).sfe = s.sfe := by simp [startPersist]
@[simp] theorem startPersist_xf (s : State) : (startPersist s).xf = s.xf := by simp [startPersist]
@[simp] theorem startPersist_ptu (s : State) : (startPersist s).ptu = s.ptu := by simp [startPersist]
@[simp] theorem startPersist_va (s : State) : (startPersist s).va = s.va := by simp [startPersist]
@[simp] theorem startPersist_cle (s : State) : (startPersist s).cle = s.cle := by simp [startPersist]
@[simp] theorem startPersist_rr (s : State) : (startPersist s).rr = s.rr := by simp [startPersist]
@[simp] theorem startPersist_ltg (s : State) : (startPersist s).ltg = s.ltg := by simp [startPersist]
@[simp] theorem startPersist_ports (s : State) : (startPersist s).ports = s.ports := by simp [startPersist]
@[simp] theorem startPersist_early (s : State) : (startPersist s).early = s.early := by simp [startPersist]
@[simp] theorem startPersist_freeIndex (s : State) : (startPersist s).freeIndex = s.freeIndex := by simp [startPersist]
@[simp] theorem startPersist_pending (s : State) : (startPersist s).pending = s.pending := by simp [startPersist]

/-! adoptEdits -/

@[simp] theorem adoptEdits_powered (s : State) : (adoptEdits s).powered = s.powered := by simp [adoptEdits]
@[simp] theorem adoptEdits_clock (s : State) : (adoptEdits s).clock = s.clock := by simp [adoptEdits]
@[simp] theorem adoptEdits_pins (s : State) : (adoptEdits s).pins = s.pins := by simp [adoptEdits]
@[simp] theorem adoptEdits_sfe (s : State) : (adoptEdits s).sfe = s.sfe := by simp [adoptEdits]
@[simp] theorem adoptEdits_xf (s : State) : (adoptEdits s).xf = s.xf := by simp [adoptEdits]
@[simp] theorem adoptEdits_ptu (s : State) : (adoptEdits s).ptu = s.ptu := by simp [adoptEdits]
@[simp] theorem adoptEdits_va (s : State) : (adoptEdits s).va = s.va := by simp [adoptEdits]
@[simp] theorem adoptEdits_cle (s : State) : (adoptEdits s).cle = s.cle := by simp [adoptEdits]
@[simp] theorem adoptEdits_rr (s : State) : (adoptEdits s).rr = s.rr := by simp [adoptEdits]
@[simp] theorem adoptEdits_ltg (s : State) : (adoptEdits s).ltg = s.ltg := by simp [adoptEdits]
@[simp] theorem adoptEdits_ports (s : State) : (adoptEdits s).ports = s.ports := by simp [adoptEdits]
@[simp] theorem adoptEdits_early (s : State) : (adoptEdits s).early = s.early := by simp [adoptEdits]
@[simp] theorem adoptEdits_freeIndex (s : State) : (adoptEdits s).freeIndex = s.freeIndex := by simp [adoptEdits]
@[simp] theorem adoptEdits_pending (s : State) : (adoptEdits s).pending = s.pending := by simp [adoptEdits]

/-! endCommit -/

@[simp] theorem endCommit_powered (s : State) : (endCommit s).powered = s.powered := by simp [endCommit]
@[simp] theorem endCommit_clock (s : State) : (endCommit s).clock = s.clock := by simp [endCommit]
@[simp] theorem endCommit_pins (s : State) : (endCommit s).pins = s.pins := by simp [endCommit]
@[simp] theorem endCommit_sfe (s : State) : (endCommit s).sfe = s.sfe := by simp [endCommit]
@[simp] theorem endCommit_xf (s : State) : (endCommit s).xf = s.xf := by simp [endCommit]
@[simp] theorem endCommit_ptu (s : State) : (endCommit s).ptu = s.ptu := by simp [endCommit]
@[simp] theorem endCommit_va (s : State) : (endCommit s).va = s.va := by simp [endCommit]
@[simp] theorem endCommit_cle (s : State) : (endCommit s).cle = s.cle := by simp [endCommit]
@[simp] theorem endCommit_rr (s : State) : (endCommit s).rr = s.rr := by simp [endCommit]
@[simp] theorem endCommit_ltg (s : State) : (endCommit s).ltg = s.ltg := by simp [endCommit]
@[simp] theorem endCommit_ports (s : State) : (endCommit s).ports = s.ports := by simp [endCommit]
@[simp] theorem endCommit_early (s : State) : (endCommit s).early = s.early := by simp [endCommit]
@[simp] theorem endCommit_freeIndex (s : State) : (endCommit s).freeIndex = s.freeIndex := by simp [endCommit]
@[simp] theorem endCommit_pending (s : State) : (endCommit s).pending = s.pending := by simp [endCommit]

/-! activate -/

@[simp] theorem activate_powered (s : State) : (activate s).powered = s.powered := by simp [activate]
@[simp] theorem activate_clock (s : State) : (activate s).clock = s.clock := by simp [activate]
@[simp] theorem activate_pins (s : State) : (activate s).pins = s.pins := by simp [activate]
@[simp] theorem activate_early (s : State) : (activate s).early = s.early := by simp [activate]
@[simp] theorem activate_freeIndex (s : State) : (activate s).freeIndex = s.freeIndex := by simp [activate]
@[simp] theorem activate_pending (s : State) : (activate s).pending = s.pending := by simp [activate]

/-! persistCompletes -/

@[simp] theorem persistCompletes_powered (b : Bool) (s : State) : (persistCompletes b s).powered = s.powered := by simp [persistCompletes]
@[simp] theorem persistCompletes_clock (b : Bool) (s : State) : (persistCompletes b s).clock = s.clock := by simp [persistCompletes]
@[simp] theorem persistCompletes_pins (b : Bool) (s : State) : (persistCompletes b s).pins = s.pins := by simp [persistCompletes]
@[simp] theorem persistCompletes_sfe (b : Bool) (s : State) : (persistCompletes b s).sfe = s.sfe := by simp [persistCompletes]
@[simp] theorem persistCompletes_xf (b : Bool) (s : State) : (persistCompletes b s).xf = s.xf := by simp [persistCompletes]
@[simp] theorem persistCompletes_ptu (b : Bool) (s : State) : (persistCompletes b s).ptu = s.ptu := by simp [persistCompletes]
@[simp] theorem persistCompletes_va (b : Bool) (s : State) : (persistCompletes b s).va = s.va := by simp [persistCompletes]
@[simp] theorem persistCompletes_cle (b : Bool) (s : State) : (persistCompletes b s).cle = s.cle := by simp [persistCompletes]
@[simp] theorem persistCompletes_rr (b : Bool) (s : State) : (persistCompletes b s).rr = s.rr := by simp [persistCompletes]
@[simp] theorem persistCompletes_ltg (b : Bool) (s : State) : (persistCompletes b s).ltg = s.ltg := by simp [persistCompletes]
@[simp] theorem persistCompletes_early (b : Bool) (s : State) : (persistCompletes b s).early = s.early := by simp [persistCompletes]
@[simp] theorem persistCompletes_freeIndex (b : Bool) (s : State) : (persistCompletes b s).freeIndex = s.freeIndex := by simp [persistCompletes]
@[simp] theorem persistCompletes_pending (b : Bool) (s : State) : (persistCompletes b s).pending = s.pending := by simp [persistCompletes]

/-! requestRestart -/

@[simp] theorem requestRestart_powered (s : State) : (requestRestart s).powered = s.powered := by unfold requestRestart; (repeat' split) <;> simp
@[simp] theorem requestRestart_clock (s : State) : (requestRestart s).clock = s.clock := by unfold requestRestart; (repeat' split) <;> simp
@[simp] theorem requestRestart_pins (s : State) : (requestRestart s).pins = s.pins := by unfold requestRestart; (repeat' split) <;> simp
@[simp] theorem requestRestart_sfe (s : State) : (requestRestart s).sfe = s.sfe := by unfold requestRestart; (repeat' split) <;> simp
@[simp] theorem requestRestart_xf (s : State) : (requestRestart s).xf = s.xf := by unfold requestRestart; (repeat' split) <;> simp
@[simp] theorem requestRestart_ptu (s : State) : (requestRestart s).ptu = s.ptu := by unfold requestRestart; (repeat' split) <;> simp
@[simp] theorem requestRestart_va (s : State) : (requestRestart s).va = s.va := by unfold requestRestart; (repeat' split) <;> simp
@[simp] theorem requestRestart_cle (s : State) : (requestRestart s).cle = s.cle := by unfold requestRestart; (repeat' split) <;> simp
@[simp] theorem requestRestart_rr (s : State) : (requestRestart s).rr = s.rr := by unfold requestRestart; (repeat' split) <;> simp
@[simp] theorem requestRestart_ltg (s : State) : (requestRestart s).ltg = s.ltg := by unfold requestRestart; (repeat' split) <;> simp
@[simp] theorem requestRestart_ports (s : State) : (requestRestart s).ports = s.ports := by unfold requestRestart; (repeat' split) <;> simp
@[simp] theorem requestRestart_early (s : State) : (requestRestart s).early = s.early := by unfold requestRestart; (repeat' split) <;> simp
@[simp] theorem requestRestart_freeIndex (s : State) : (requestRestart s).freeIndex = s.freeIndex := by unfold requestRestart; (repeat' split) <;> simp
@[simp] theorem requestRestart_pending (s : State) : (requestRestart s).pending = s.pending := by unfold requestRestart; (repeat' split) <;> simp

/-! restartCc -/

@[simp] theorem restartCc_powered (s : State) : (restartCc s).powered = s.powered := by simp [restartCc]
@[simp] theorem restartCc_clock (s : State) : (restartCc s).clock = s.clock := by simp [restartCc]
@[simp] theorem restartCc_pins (s : State) : (restartCc s).pins = s.pins := by simp [restartCc]
@[simp] theorem restartCc_sfe (s : State) : (restartCc s).sfe = s.sfe := by simp [restartCc]
@[simp] theorem restartCc_xf (s : State) : (restartCc s).xf = s.xf := by simp [restartCc]
@[simp] theorem restartCc_ptu (s : State) : (restartCc s).ptu = s.ptu := by simp [restartCc]
@[simp] theorem restartCc_va (s : State) : (restartCc s).va = s.va := by simp [restartCc]
@[simp] theorem restartCc_cle (s : State) : (restartCc s).cle = s.cle := by simp [restartCc]
@[simp] theorem restartCc_rr (s : State) : (restartCc s).rr = s.rr := by simp [restartCc]
@[simp] theorem restartCc_ltg (s : State) : (restartCc s).ltg = s.ltg := by simp [restartCc]
@[simp] theorem restartCc_ports (s : State) : (restartCc s).ports = s.ports := by simp [restartCc]
@[simp] theorem restartCc_early (s : State) : (restartCc s).early = s.early := by simp [restartCc]
@[simp] theorem restartCc_freeIndex (s : State) : (restartCc s).freeIndex = s.freeIndex := by simp [restartCc]
@[simp] theorem restartCc_pending (s : State) : (restartCc s).pending = s.pending := by simp [restartCc]

/-! restartLtg -/

@[simp] theorem restartLtg_powered (s : State) : (restartLtg s).powered = s.powered := by simp [restartLtg]
@[simp] theorem restartLtg_clock (s : State) : (restartLtg s).clock = s.clock := by simp [restartLtg]
@[simp] theorem restartLtg_pins (s : State) : (restartLtg s).pins = s.pins := by simp [restartLtg]
@[simp] theorem restartLtg_sfe (s : State) : (restartLtg s).sfe = s.sfe := by simp [restartLtg]
@[simp] theorem restartLtg_xf (s : State) : (restartLtg s).xf = s.xf := by simp [restartLtg]
@[simp] theorem restartLtg_ptu (s : State) : (restartLtg s).ptu = s.ptu := by simp [restartLtg]
@[simp] theorem restartLtg_va (s : State) : (restartLtg s).va = s.va := by simp [restartLtg]
@[simp] theorem restartLtg_cle (s : State) : (restartLtg s).cle = s.cle := by simp [restartLtg]
@[simp] theorem restartLtg_rr (s : State) : (restartLtg s).rr = s.rr := by simp [restartLtg]
@[simp] theorem restartLtg_cc (s : State) : (restartLtg s).cc = s.cc := by simp [restartLtg]
@[simp] theorem restartLtg_ports (s : State) : (restartLtg s).ports = s.ports := by simp [restartLtg]
@[simp] theorem restartLtg_early (s : State) : (restartLtg s).early = s.early := by simp [restartLtg]
@[simp] theorem restartLtg_freeIndex (s : State) : (restartLtg s).freeIndex = s.freeIndex := by simp [restartLtg]
@[simp] theorem restartLtg_pending (s : State) : (restartLtg s).pending = s.pending := by simp [restartLtg]

/-! restartSfe -/

@[simp] theorem restartSfe_powered (s : State) : (restartSfe s).powered = s.powered := by simp [restartSfe]
@[simp] theorem restartSfe_clock (s : State) : (restartSfe s).clock = s.clock := by simp [restartSfe]
@[simp] theorem restartSfe_pins (s : State) : (restartSfe s).pins = s.pins := by simp [restartSfe]
@[simp] theorem restartSfe_xf (s : State) : (restartSfe s).xf = s.xf := by simp [restartSfe]
@[simp] theorem restartSfe_ptu (s : State) : (restartSfe s).ptu = s.ptu := by simp [restartSfe]
@[simp] theorem restartSfe_va (s : State) : (restartSfe s).va = s.va := by simp [restartSfe]
@[simp] theorem restartSfe_cle (s : State) : (restartSfe s).cle = s.cle := by simp [restartSfe]
@[simp] theorem restartSfe_rr (s : State) : (restartSfe s).rr = s.rr := by simp [restartSfe]
@[simp] theorem restartSfe_cc (s : State) : (restartSfe s).cc = s.cc := by simp [restartSfe]
@[simp] theorem restartSfe_ltg (s : State) : (restartSfe s).ltg = s.ltg := by simp [restartSfe]
@[simp] theorem restartSfe_ports (s : State) : (restartSfe s).ports = s.ports := by simp [restartSfe]
@[simp] theorem restartSfe_early (s : State) : (restartSfe s).early = s.early := by simp [restartSfe]
@[simp] theorem restartSfe_freeIndex (s : State) : (restartSfe s).freeIndex = s.freeIndex := by simp [restartSfe]
@[simp] theorem restartSfe_pending (s : State) : (restartSfe s).pending = s.pending := by simp [restartSfe]

/-! restartXf -/

@[simp] theorem restartXf_powered (s : State) : (restartXf s).powered = s.powered := by simp [restartXf]
@[simp] theorem restartXf_clock (s : State) : (restartXf s).clock = s.clock := by simp [restartXf]
@[simp] theorem restartXf_pins (s : State) : (restartXf s).pins = s.pins := by simp [restartXf]
@[simp] theorem restartXf_sfe (s : State) : (restartXf s).sfe = s.sfe := by simp [restartXf]
@[simp] theorem restartXf_ptu (s : State) : (restartXf s).ptu = s.ptu := by simp [restartXf]
@[simp] theorem restartXf_va (s : State) : (restartXf s).va = s.va := by simp [restartXf]
@[simp] theorem restartXf_cle (s : State) : (restartXf s).cle = s.cle := by simp [restartXf]
@[simp] theorem restartXf_rr (s : State) : (restartXf s).rr = s.rr := by simp [restartXf]
@[simp] theorem restartXf_cc (s : State) : (restartXf s).cc = s.cc := by simp [restartXf]
@[simp] theorem restartXf_ltg (s : State) : (restartXf s).ltg = s.ltg := by simp [restartXf]
@[simp] theorem restartXf_ports (s : State) : (restartXf s).ports = s.ports := by simp [restartXf]
@[simp] theorem restartXf_early (s : State) : (restartXf s).early = s.early := by simp [restartXf]
@[simp] theorem restartXf_freeIndex (s : State) : (restartXf s).freeIndex = s.freeIndex := by simp [restartXf]
@[simp] theorem restartXf_pending (s : State) : (restartXf s).pending = s.pending := by simp [restartXf]

/-! restartContexts -/

@[simp] theorem restartContexts_powered (s : State) : (restartContexts s).powered = s.powered := by simp [restartContexts]
@[simp] theorem restartContexts_clock (s : State) : (restartContexts s).clock = s.clock := by simp [restartContexts]
@[simp] theorem restartContexts_pins (s : State) : (restartContexts s).pins = s.pins := by simp [restartContexts]
@[simp] theorem restartContexts_sfe (s : State) : (restartContexts s).sfe = s.sfe := by simp [restartContexts]
@[simp] theorem restartContexts_xf (s : State) : (restartContexts s).xf = s.xf := by simp [restartContexts]
@[simp] theorem restartContexts_ptu (s : State) : (restartContexts s).ptu = s.ptu := by simp [restartContexts]
@[simp] theorem restartContexts_cle (s : State) : (restartContexts s).cle = s.cle := by simp [restartContexts]
@[simp] theorem restartContexts_rr (s : State) : (restartContexts s).rr = s.rr := by simp [restartContexts]
@[simp] theorem restartContexts_cc (s : State) : (restartContexts s).cc = s.cc := by simp [restartContexts]
@[simp] theorem restartContexts_ltg (s : State) : (restartContexts s).ltg = s.ltg := by simp [restartContexts]
@[simp] theorem restartContexts_ports (s : State) : (restartContexts s).ports = s.ports := by simp [restartContexts]
@[simp] theorem restartContexts_early (s : State) : (restartContexts s).early = s.early := by simp [restartContexts]
@[simp] theorem restartContexts_freeIndex (s : State) : (restartContexts s).freeIndex = s.freeIndex := by simp [restartContexts]
@[simp] theorem restartContexts_pending (s : State) : (restartContexts s).pending = s.pending := by simp [restartContexts]

/-! restartCle -/

@[simp] theorem restartCle_powered (s : State) : (restartCle s).powered = s.powered := by simp [restartCle]
@[simp] theorem restartCle_clock (s : State) : (restartCle s).clock = s.clock := by simp [restartCle]
@[simp] theorem restartCle_pins (s : State) : (restartCle s).pins = s.pins := by simp [restartCle]
@[simp] theorem restartCle_sfe (s : State) : (restartCle s).sfe = s.sfe := by simp [restartCle]
@[simp] theorem restartCle_xf (s : State) : (restartCle s).xf = s.xf := by simp [restartCle]
@[simp] theorem restartCle_ptu (s : State) : (restartCle s).ptu = s.ptu := by simp [restartCle]
@[simp] theorem restartCle_va (s : State) : (restartCle s).va = s.va := by simp [restartCle]
@[simp] theorem restartCle_rr (s : State) : (restartCle s).rr = s.rr := by simp [restartCle]
@[simp] theorem restartCle_cc (s : State) : (restartCle s).cc = s.cc := by simp [restartCle]
@[simp] theorem restartCle_ltg (s : State) : (restartCle s).ltg = s.ltg := by simp [restartCle]
@[simp] theorem restartCle_ports (s : State) : (restartCle s).ports = s.ports := by simp [restartCle]
@[simp] theorem restartCle_early (s : State) : (restartCle s).early = s.early := by simp [restartCle]
@[simp] theorem restartCle_freeIndex (s : State) : (restartCle s).freeIndex = s.freeIndex := by simp [restartCle]
@[simp] theorem restartCle_pending (s : State) : (restartCle s).pending = s.pending := by simp [restartCle]

/-! restartRr -/

@[simp] theorem restartRr_powered (s : State) : (restartRr s).powered = s.powered := by simp [restartRr]
@[simp] theorem restartRr_clock (s : State) : (restartRr s).clock = s.clock := by simp [restartRr]
@[simp] theorem restartRr_pins (s : State) : (restartRr s).pins = s.pins := by simp [restartRr]
@[simp] theorem restartRr_sfe (s : State) : (restartRr s).sfe = s.sfe := by simp [restartRr]
@[simp] theorem restartRr_xf (s : State) : (restartRr s).xf = s.xf := by simp [restartRr]
@[simp] theorem restartRr_ptu (s : State) : (restartRr s).ptu = s.ptu := by simp [restartRr]
@[simp] theorem restartRr_va (s : State) : (restartRr s).va = s.va := by simp [restartRr]
@[simp] theorem restartRr_cle (s : State) : (restartRr s).cle = s.cle := by simp [restartRr]
@[simp] theorem restartRr_cc (s : State) : (restartRr s).cc = s.cc := by simp [restartRr]
@[simp] theorem restartRr_ltg (s : State) : (restartRr s).ltg = s.ltg := by simp [restartRr]
@[simp] theorem restartRr_ports (s : State) : (restartRr s).ports = s.ports := by simp [restartRr]
@[simp] theorem restartRr_early (s : State) : (restartRr s).early = s.early := by simp [restartRr]
@[simp] theorem restartRr_freeIndex (s : State) : (restartRr s).freeIndex = s.freeIndex := by simp [restartRr]
@[simp] theorem restartRr_pending (s : State) : (restartRr s).pending = s.pending := by simp [restartRr]

/-! restartPn -/

@[simp] theorem restartPn_powered (s : State) : (restartPn s).powered = s.powered := by simp [restartPn]
@[simp] theorem restartPn_clock (s : State) : (restartPn s).clock = s.clock := by simp [restartPn]
@[simp] theorem restartPn_pins (s : State) : (restartPn s).pins = s.pins := by simp [restartPn]
@[simp] theorem restartPn_sfe (s : State) : (restartPn s).sfe = s.sfe := by simp [restartPn]
@[simp] theorem restartPn_xf (s : State) : (restartPn s).xf = s.xf := by simp [restartPn]
@[simp] theorem restartPn_ptu (s : State) : (restartPn s).ptu = s.ptu := by simp [restartPn]
@[simp] theorem restartPn_va (s : State) : (restartPn s).va = s.va := by simp [restartPn]
@[simp] theorem restartPn_cle (s : State) : (restartPn s).cle = s.cle := by simp [restartPn]
@[simp] theorem restartPn_rr (s : State) : (restartPn s).rr = s.rr := by simp [restartPn]
@[simp] theorem restartPn_cc (s : State) : (restartPn s).cc = s.cc := by simp [restartPn]
@[simp] theorem restartPn_ltg (s : State) : (restartPn s).ltg = s.ltg := by simp [restartPn]
@[simp] theorem restartPn_early (s : State) : (restartPn s).early = s.early := by simp [restartPn]
@[simp] theorem restartPn_freeIndex (s : State) : (restartPn s).freeIndex = s.freeIndex := by simp [restartPn]
@[simp] theorem restartPn_pending (s : State) : (restartPn s).pending = s.pending := by simp [restartPn]

/-! rereadAll -/

@[simp] theorem rereadAll_powered (s : State) : (rereadAll s).powered = s.powered := by
  simp [rereadAll, Ix4.all]
@[simp] theorem rereadAll_clock (s : State) : (rereadAll s).clock = s.clock := by
  simp [rereadAll, Ix4.all]
@[simp] theorem rereadAll_pins (s : State) : (rereadAll s).pins = s.pins := by
  simp [rereadAll, Ix4.all]
@[simp] theorem rereadAll_ptu (s : State) : (rereadAll s).ptu = s.ptu := by
  simp [rereadAll, Ix4.all]
@[simp] theorem rereadAll_cle (s : State) : (rereadAll s).cle = s.cle := by
  simp [rereadAll, Ix4.all]
@[simp] theorem rereadAll_rr (s : State) : (rereadAll s).rr = s.rr := by
  simp [rereadAll, Ix4.all]
@[simp] theorem rereadAll_cc (s : State) : (rereadAll s).cc = s.cc := by
  simp [rereadAll, Ix4.all]
@[simp] theorem rereadAll_early (s : State) : (rereadAll s).early = s.early := by
  simp [rereadAll, Ix4.all]
@[simp] theorem rereadAll_freeIndex (s : State) : (rereadAll s).freeIndex = s.freeIndex := by
  simp [rereadAll, Ix4.all]
@[simp] theorem rereadAll_pending (s : State) : (rereadAll s).pending = s.pending := by
  simp [rereadAll, Ix4.all]

/-! restartDevice -/

@[simp] theorem restartDevice_powered (s : State) : (restartDevice s).powered = s.powered := by simp [restartDevice]
@[simp] theorem restartDevice_clock (s : State) : (restartDevice s).clock = s.clock := by simp [restartDevice]
@[simp] theorem restartDevice_pins (s : State) : (restartDevice s).pins = s.pins := by simp [restartDevice]
@[simp] theorem restartDevice_ptu (s : State) : (restartDevice s).ptu = s.ptu := by simp [restartDevice]
@[simp] theorem restartDevice_early (s : State) : (restartDevice s).early = s.early := by simp [restartDevice]
@[simp] theorem restartDevice_freeIndex (s : State) : (restartDevice s).freeIndex = s.freeIndex := by simp [restartDevice]
@[simp] theorem restartDevice_pending (s : State) : (restartDevice s).pending = s.pending := by simp [restartDevice]

/-! settleUrgent -/

@[simp] theorem settleUrgent_powered (s : State) : (settleUrgent s).powered = s.powered := by unfold settleUrgent; dsimp only; (repeat' split) <;> simp
@[simp] theorem settleUrgent_clock (s : State) : (settleUrgent s).clock = s.clock := by unfold settleUrgent; dsimp only; (repeat' split) <;> simp
@[simp] theorem settleUrgent_pins (s : State) : (settleUrgent s).pins = s.pins := by unfold settleUrgent; dsimp only; (repeat' split) <;> simp
@[simp] theorem settleUrgent_early (s : State) : (settleUrgent s).early = s.early := by unfold settleUrgent; dsimp only; (repeat' split) <;> simp
@[simp] theorem settleUrgent_freeIndex (s : State) : (settleUrgent s).freeIndex = s.freeIndex := by unfold settleUrgent; dsimp only; (repeat' split) <;> simp
@[simp] theorem settleUrgent_pending (s : State) : (settleUrgent s).pending = s.pending := by unfold settleUrgent; dsimp only; (repeat' split) <;> simp

/-! closeLane -/

@[simp] theorem closeLane_powered (l : Lane) (s : State) : (closeLane l s).powered = s.powered := by
  by_cases h : (s.context l).state = .empty <;> simp [closeLane, h]
@[simp] theorem closeLane_clock (l : Lane) (s : State) : (closeLane l s).clock = s.clock := by
  by_cases h : (s.context l).state = .empty <;> simp [closeLane, h]
@[simp] theorem closeLane_pins (l : Lane) (s : State) : (closeLane l s).pins = s.pins := by
  by_cases h : (s.context l).state = .empty <;> simp [closeLane, h]
@[simp] theorem closeLane_ptu (l : Lane) (s : State) : (closeLane l s).ptu = s.ptu := by
  by_cases h : (s.context l).state = .empty <;> simp [closeLane, h]
@[simp] theorem closeLane_cc (l : Lane) (s : State) : (closeLane l s).cc = s.cc := by
  by_cases h : (s.context l).state = .empty <;> simp [closeLane, h]
@[simp] theorem closeLane_early (l : Lane) (s : State) : (closeLane l s).early = s.early := by
  by_cases h : (s.context l).state = .empty <;> simp [closeLane, h]
@[simp] theorem closeLane_freeIndex (l : Lane) (s : State) : (closeLane l s).freeIndex = s.freeIndex := by
  by_cases h : (s.context l).state = .empty <;> simp [closeLane, h]
@[simp] theorem closeLane_pending (l : Lane) (s : State) : (closeLane l s).pending = s.pending := by
  by_cases h : (s.context l).state = .empty <;> simp [closeLane, h]

/-! openLane -/

@[simp] theorem openLane_powered (l : Lane) (s : State) : (openLane l s).powered = s.powered := by
  unfold openLane; dsimp only; rw [rereadPresence_powered]
  exact (foldl_keeps (·.powered) _ (fun _ _ => by split <;> simp) _ _).trans (by simp)
@[simp] theorem openLane_clock (l : Lane) (s : State) : (openLane l s).clock = s.clock := by
  unfold openLane; dsimp only; rw [rereadPresence_clock]
  exact (foldl_keeps (·.clock) _ (fun _ _ => by split <;> simp) _ _).trans (by simp)
@[simp] theorem openLane_pins (l : Lane) (s : State) : (openLane l s).pins = s.pins := by
  unfold openLane; dsimp only; rw [rereadPresence_pins]
  exact (foldl_keeps (·.pins) _ (fun _ _ => by split <;> simp) _ _).trans (by simp)
@[simp] theorem openLane_ptu (l : Lane) (s : State) : (openLane l s).ptu = s.ptu := by
  unfold openLane; dsimp only; rw [rereadPresence_ptu]
  exact (foldl_keeps (·.ptu) _ (fun _ _ => by split <;> simp) _ _).trans (by simp)
@[simp] theorem openLane_cle (l : Lane) (s : State) : (openLane l s).cle = s.cle := by
  unfold openLane; dsimp only; rw [rereadPresence_cle]
  exact (foldl_keeps (·.cle) _ (fun _ _ => by split <;> simp) _ _).trans (by simp)
@[simp] theorem openLane_rr (l : Lane) (s : State) : (openLane l s).rr = s.rr := by
  unfold openLane; dsimp only; rw [rereadPresence_rr]
  exact (foldl_keeps (·.rr) _ (fun _ _ => by split <;> simp) _ _).trans (by simp)
@[simp] theorem openLane_cc (l : Lane) (s : State) : (openLane l s).cc = s.cc := by
  unfold openLane; dsimp only; rw [rereadPresence_cc]
  exact (foldl_keeps (·.cc) _ (fun _ _ => by split <;> simp) _ _).trans (by simp)
@[simp] theorem openLane_early (l : Lane) (s : State) : (openLane l s).early = s.early := by
  unfold openLane; dsimp only; rw [rereadPresence_early]
  exact (foldl_keeps (·.early) _ (fun _ _ => by split <;> simp) _ _).trans (by simp)
@[simp] theorem openLane_freeIndex (l : Lane) (s : State) : (openLane l s).freeIndex = s.freeIndex := by
  unfold openLane; dsimp only; rw [rereadPresence_freeIndex]
  exact (foldl_keeps (·.freeIndex) _ (fun _ _ => by split <;> simp) _ _).trans (by simp)
@[simp] theorem openLane_pending (l : Lane) (s : State) : (openLane l s).pending = s.pending := by
  unfold openLane; dsimp only; rw [rereadPresence_pending]
  exact (foldl_keeps (·.pending) _ (fun _ _ => by split <;> simp) _ _).trans (by simp)

/-! stepPointer -/

@[simp] theorem stepPointer_powered (p : PortId) (s : State) : (stepPointer p s).powered = s.powered := by simp [stepPointer]
@[simp] theorem stepPointer_clock (p : PortId) (s : State) : (stepPointer p s).clock = s.clock := by simp [stepPointer]
@[simp] theorem stepPointer_pins (p : PortId) (s : State) : (stepPointer p s).pins = s.pins := by simp [stepPointer]
@[simp] theorem stepPointer_sfe (p : PortId) (s : State) : (stepPointer p s).sfe = s.sfe := by simp [stepPointer]
@[simp] theorem stepPointer_xf (p : PortId) (s : State) : (stepPointer p s).xf = s.xf := by simp [stepPointer]
@[simp] theorem stepPointer_ptu (p : PortId) (s : State) : (stepPointer p s).ptu = s.ptu := by simp [stepPointer]
@[simp] theorem stepPointer_va (p : PortId) (s : State) : (stepPointer p s).va = s.va := by simp [stepPointer]
@[simp] theorem stepPointer_cle (p : PortId) (s : State) : (stepPointer p s).cle = s.cle := by simp [stepPointer]
@[simp] theorem stepPointer_rr (p : PortId) (s : State) : (stepPointer p s).rr = s.rr := by simp [stepPointer]
@[simp] theorem stepPointer_cc (p : PortId) (s : State) : (stepPointer p s).cc = s.cc := by simp [stepPointer]
@[simp] theorem stepPointer_ltg (p : PortId) (s : State) : (stepPointer p s).ltg = s.ltg := by simp [stepPointer]
@[simp] theorem stepPointer_early (p : PortId) (s : State) : (stepPointer p s).early = s.early := by simp [stepPointer]
@[simp] theorem stepPointer_freeIndex (p : PortId) (s : State) : (stepPointer p s).freeIndex = s.freeIndex := by simp [stepPointer]
@[simp] theorem stepPointer_pending (p : PortId) (s : State) : (stepPointer p s).pending = s.pending := by simp [stepPointer]

/-! acceptWrite -/

@[simp] theorem acceptWrite_powered (p : PortId) (b : List Byte) (s : State) : (acceptWrite p b s).powered = s.powered := by simp [acceptWrite]
@[simp] theorem acceptWrite_clock (p : PortId) (b : List Byte) (s : State) : (acceptWrite p b s).clock = s.clock := by simp [acceptWrite]
@[simp] theorem acceptWrite_pins (p : PortId) (b : List Byte) (s : State) : (acceptWrite p b s).pins = s.pins := by simp [acceptWrite]
@[simp] theorem acceptWrite_sfe (p : PortId) (b : List Byte) (s : State) : (acceptWrite p b s).sfe = s.sfe := by simp [acceptWrite]
@[simp] theorem acceptWrite_xf (p : PortId) (b : List Byte) (s : State) : (acceptWrite p b s).xf = s.xf := by simp [acceptWrite]
@[simp] theorem acceptWrite_ptu (p : PortId) (b : List Byte) (s : State) : (acceptWrite p b s).ptu = s.ptu := by simp [acceptWrite]
@[simp] theorem acceptWrite_va (p : PortId) (b : List Byte) (s : State) : (acceptWrite p b s).va = s.va := by simp [acceptWrite]
@[simp] theorem acceptWrite_cle (p : PortId) (b : List Byte) (s : State) : (acceptWrite p b s).cle = s.cle := by simp [acceptWrite]
@[simp] theorem acceptWrite_rr (p : PortId) (b : List Byte) (s : State) : (acceptWrite p b s).rr = s.rr := by simp [acceptWrite]
@[simp] theorem acceptWrite_ltg (p : PortId) (b : List Byte) (s : State) : (acceptWrite p b s).ltg = s.ltg := by simp [acceptWrite]
@[simp] theorem acceptWrite_early (p : PortId) (b : List Byte) (s : State) : (acceptWrite p b s).early = s.early := by simp [acceptWrite]
@[simp] theorem acceptWrite_freeIndex (p : PortId) (b : List Byte) (s : State) : (acceptWrite p b s).freeIndex = s.freeIndex := by simp [acceptWrite]
@[simp] theorem acceptWrite_pending (p : PortId) (b : List Byte) (s : State) : (acceptWrite p b s).pending = s.pending := by simp [acceptWrite]

/-! acceptCommit -/

@[simp] theorem acceptCommit_powered (s : State) : (acceptCommit s).powered = s.powered := by simp [acceptCommit]
@[simp] theorem acceptCommit_clock (s : State) : (acceptCommit s).clock = s.clock := by simp [acceptCommit]
@[simp] theorem acceptCommit_pins (s : State) : (acceptCommit s).pins = s.pins := by simp [acceptCommit]
@[simp] theorem acceptCommit_sfe (s : State) : (acceptCommit s).sfe = s.sfe := by simp [acceptCommit]
@[simp] theorem acceptCommit_xf (s : State) : (acceptCommit s).xf = s.xf := by simp [acceptCommit]
@[simp] theorem acceptCommit_ptu (s : State) : (acceptCommit s).ptu = s.ptu := by simp [acceptCommit]
@[simp] theorem acceptCommit_va (s : State) : (acceptCommit s).va = s.va := by simp [acceptCommit]
@[simp] theorem acceptCommit_cle (s : State) : (acceptCommit s).cle = s.cle := by simp [acceptCommit]
@[simp] theorem acceptCommit_rr (s : State) : (acceptCommit s).rr = s.rr := by simp [acceptCommit]
@[simp] theorem acceptCommit_ltg (s : State) : (acceptCommit s).ltg = s.ltg := by simp [acceptCommit]
@[simp] theorem acceptCommit_ports (s : State) : (acceptCommit s).ports = s.ports := by simp [acceptCommit]
@[simp] theorem acceptCommit_early (s : State) : (acceptCommit s).early = s.early := by simp [acceptCommit]
@[simp] theorem acceptCommit_freeIndex (s : State) : (acceptCommit s).freeIndex = s.freeIndex := by simp [acceptCommit]
@[simp] theorem acceptCommit_pending (s : State) : (acceptCommit s).pending = s.pending := by simp [acceptCommit]

/-! discardEdits -/

@[simp] theorem discardEdits_powered (s : State) : (discardEdits s).powered = s.powered := by simp [discardEdits]
@[simp] theorem discardEdits_clock (s : State) : (discardEdits s).clock = s.clock := by simp [discardEdits]
@[simp] theorem discardEdits_pins (s : State) : (discardEdits s).pins = s.pins := by simp [discardEdits]
@[simp] theorem discardEdits_sfe (s : State) : (discardEdits s).sfe = s.sfe := by simp [discardEdits]
@[simp] theorem discardEdits_xf (s : State) : (discardEdits s).xf = s.xf := by simp [discardEdits]
@[simp] theorem discardEdits_ptu (s : State) : (discardEdits s).ptu = s.ptu := by simp [discardEdits]
@[simp] theorem discardEdits_va (s : State) : (discardEdits s).va = s.va := by simp [discardEdits]
@[simp] theorem discardEdits_cle (s : State) : (discardEdits s).cle = s.cle := by simp [discardEdits]
@[simp] theorem discardEdits_rr (s : State) : (discardEdits s).rr = s.rr := by simp [discardEdits]
@[simp] theorem discardEdits_ltg (s : State) : (discardEdits s).ltg = s.ltg := by simp [discardEdits]
@[simp] theorem discardEdits_ports (s : State) : (discardEdits s).ports = s.ports := by simp [discardEdits]
@[simp] theorem discardEdits_early (s : State) : (discardEdits s).early = s.early := by simp [discardEdits]
@[simp] theorem discardEdits_freeIndex (s : State) : (discardEdits s).freeIndex = s.freeIndex := by simp [discardEdits]
@[simp] theorem discardEdits_pending (s : State) : (discardEdits s).pending = s.pending := by simp [discardEdits]

/-! changeLane -/

@[simp] theorem changeLane_powered (l : Lane) (b : Bool) (s : State) : (changeLane l b s).powered = s.powered := by unfold changeLane; (repeat' split) <;> simp
@[simp] theorem changeLane_clock (l : Lane) (b : Bool) (s : State) : (changeLane l b s).clock = s.clock := by unfold changeLane; (repeat' split) <;> simp
@[simp] theorem changeLane_pins (l : Lane) (b : Bool) (s : State) : (changeLane l b s).pins = s.pins := by unfold changeLane; (repeat' split) <;> simp
@[simp] theorem changeLane_ptu (l : Lane) (b : Bool) (s : State) : (changeLane l b s).ptu = s.ptu := by unfold changeLane; (repeat' split) <;> simp
@[simp] theorem changeLane_early (l : Lane) (b : Bool) (s : State) : (changeLane l b s).early = s.early := by unfold changeLane; (repeat' split) <;> simp
@[simp] theorem changeLane_freeIndex (l : Lane) (b : Bool) (s : State) : (changeLane l b s).freeIndex = s.freeIndex := by unfold changeLane; (repeat' split) <;> simp
@[simp] theorem changeLane_pending (l : Lane) (b : Bool) (s : State) : (changeLane l b s).pending = s.pending := by unfold changeLane; (repeat' split) <;> simp

/-! startTest -/

@[simp] theorem startTest_powered (l : Lane) (i : Ix4) (s : State) : (startTest l i s).powered = s.powered := by simp [startTest]
@[simp] theorem startTest_clock (l : Lane) (i : Ix4) (s : State) : (startTest l i s).clock = s.clock := by simp [startTest]
@[simp] theorem startTest_pins (l : Lane) (i : Ix4) (s : State) : (startTest l i s).pins = s.pins := by simp [startTest]
@[simp] theorem startTest_sfe (l : Lane) (i : Ix4) (s : State) : (startTest l i s).sfe = s.sfe := by simp [startTest]
@[simp] theorem startTest_xf (l : Lane) (i : Ix4) (s : State) : (startTest l i s).xf = s.xf := by simp [startTest]
@[simp] theorem startTest_ptu (l : Lane) (i : Ix4) (s : State) : (startTest l i s).ptu = s.ptu := by simp [startTest]
@[simp] theorem startTest_va (l : Lane) (i : Ix4) (s : State) : (startTest l i s).va = s.va := by simp [startTest]
@[simp] theorem startTest_cle (l : Lane) (i : Ix4) (s : State) : (startTest l i s).cle = s.cle := by simp [startTest]
@[simp] theorem startTest_rr (l : Lane) (i : Ix4) (s : State) : (startTest l i s).rr = s.rr := by simp [startTest]
@[simp] theorem startTest_cc (l : Lane) (i : Ix4) (s : State) : (startTest l i s).cc = s.cc := by simp [startTest]
@[simp] theorem startTest_ports (l : Lane) (i : Ix4) (s : State) : (startTest l i s).ports = s.ports := by simp [startTest]
@[simp] theorem startTest_early (l : Lane) (i : Ix4) (s : State) : (startTest l i s).early = s.early := by simp [startTest]
@[simp] theorem startTest_freeIndex (l : Lane) (i : Ix4) (s : State) : (startTest l i s).freeIndex = s.freeIndex := by simp [startTest]
@[simp] theorem startTest_pending (l : Lane) (i : Ix4) (s : State) : (startTest l i s).pending = s.pending := by simp [startTest]

end Sys2Proof.Machine
end

