-- ==== Sys2Proof/Laws/Ops.lean ====
section
/-! SUPPORT. What each shared operation does, said once: commands on a live device, notices, and the service of frames. -/

namespace Sys2Proof.Machine

/-! ### Live states -/

theorem settleUrgent_live {s : State} (h : Live s) : settleUrgent s = s := by
  simp [settleUrgent, h.2.1, h.2.2]

/-- A command on a live device has its own effect. -/
theorem onLive_live {s : State} (h : Live s) (f : State → State) : onLive f s = .next (f s) := by
  simp [onLive, h.1, settleUrgent_live h]

/-- A device without supply does nothing. -/
theorem onLive_off {s : State} (h : s.powered = false) (f : State → State) : onLive f s = .next s := by
  simp [onLive, h]

theorem whenever_true (f : State → State) (s : State) : whenever true f s = f s := rfl

theorem whenever_false (f : State → State) (s : State) : whenever false f s = s := rfl

/-- What comes at once leaves nothing that comes at once. -/
theorem settleUrgent_settles (s : State) :
    (settleUrgent s).cc.activationDue = false ∧ (settleUrgent s).cc.restartDue = false := by
  unfold settleUrgent
  dsimp only
  by_cases ha : s.cc.activationDue = true <;> by_cases hr : s.cc.restartDue = true <;>
    simp [ha, hr, activate, adoptEdits, startPersist, endCommit, restartDevice, restartCc, revertEdits]

theorem settleUrgent_settled {s : State} (ha : s.cc.activationDue = false) (hr : s.cc.restartDue = false) :
    settleUrgent s = s := by
  simp [settleUrgent, ha, hr]

/-- With no commit waiting on EMPTY contexts, nothing follows an event (R151). -/
theorem noteEmptied_quiet {s : State} (h : CommitInv s) : noteEmptied s = s := by
  unfold noteEmptied
  split
  · rename_i hw
    simp only [Bool.and_eq_true] at hw
    have := h hw.1.1 hw.2
    cases s; rename_i cc _ _ _ _ _; cases cc; simp_all
  · rfl

/-! ### Notices -/

/-- A port's flags replaced: its set passes from the old to the new (R184, R185). -/
theorem replaceFlags_eq_noticed (now : Time) (f : NoticeSet) (x : Port) : replaceFlags now f x = noticed now f x := by
  cases x
  rename_i lineMode reminder pulse reminderExpiry
  cases lineMode <;> simp [replaceFlags, followSet, noticed, Port.unmasked, startPulse]
  split_ifs <;> simp_all

@[simp] theorem noticed_role (now : Time) (f : NoticeSet) (x : Port) : (noticed now f x).role = x.role := rfl
@[simp] theorem noticed_flags (now : Time) (f : NoticeSet) (x : Port) : (noticed now f x).flags = f := rfl
@[simp] theorem noticed_tx (now : Time) (f : NoticeSet) (x : Port) : (noticed now f x).tx = x.tx := rfl

/-- A flag raised at one port: that port alone, where it is not DISABLED (R170, R181). -/
theorem port_raiseAt (p q : PortId) (f : NoticeSet) (s : State) :
    (raiseAt p f s).port q =
      if q = p ∧ (s.port p).role ≠ .disabled then noticed s.now ((s.port p).flags ||| f) (s.port p) else s.port q := by
  unfold raiseAt
  by_cases hd : (s.port p).role = .disabled
  · simp [State.disabled, hd]
  · by_cases hq : q = p <;> simp [State.disabled, hd, hq, replaceFlags_eq_noticed, State.port_withPort]

/-- A flag raised at all ports: everything it does (R170, R181, R184, R185). -/
theorem raiseAll_eq_raised (f : NoticeSet) (s : State) : raiseAll f s = raised f s := by
  have h : (raiseAll f s).ports = (raised f s).ports := by
    refine Tri.ext_get fun p => ?_
    show (raiseAll f s).port p = _
    simp only [raiseAll, port_raiseAt, raised, Tri.get_of]
    cases p <;> simp [State.now]
  have e : ∀ t u : State, t.ports = u.ports → t.powered = u.powered → t.clock = u.clock → t.pins = u.pins →
      t.sfe = u.sfe → t.xf = u.xf → t.ptu = u.ptu → t.va = u.va → t.cle = u.cle → t.rr = u.rr → t.cc = u.cc →
      t.ltg = u.ltg → t.early = u.early → t.freeIndex = u.freeIndex → t.pending = u.pending → t = u := by
    intro t u; cases t; cases u; simp_all
  apply e _ _ h <;> simp [raised]

/-- A frame taken: dispatched, then answered with its code and tag (R174, R176). -/
theorem takeFrame_eq (p : PortId) (f : Frame) (s : State) :
    takeFrame p f s = answered p f.code f.tag (dispatch p f s).2 (dispatch p f s).1 := rfl

/-- A frame that completes at a port that takes it at once is answered there (R174). -/
theorem serve_taking {p : PortId} {s : State} (h : Taking p s) (f : Frame) :
    serve p f s = answered p f.code f.tag (dispatch p f s).2 (dispatch p f s).1 := by
  obtain ⟨-, h1, h2, h3⟩ := h
  simp [serve, State.disabled, h1, h2, h3, takeFrame_eq]

/-- A command's frame that completes at a port that takes it at once is answered there (R174). -/
theorem frameArrives_taking {p : PortId} {s : State} (h : Taking p s) (f : Frame) :
    frameArrives p f s = answered p f.code f.tag (dispatch p f s).2 (dispatch p f s).1 := by
  simp [frameArrives, completeEarlier, State.disabled, h.2.1, h.2.2.1, serve_taking h]

/-- A known command with a fitting payload runs at a MAINTENANCE port (R175). -/
theorem dispatch_any {p : PortId} {s : State} (h : TakingAny p s) (f : Frame) {c : CommandId}
    (hc : commandOf f.code = some c) (hl : lengthFits c f.payload = true) :
    dispatch p f s = runCommand p f.payload s c := by
  simp [dispatch, hc, hl, h.2, roleAdmits]

/-- A command open to every role runs at every port that takes it (R175). -/
theorem dispatch_open {p : PortId} {s : State} (h : Taking p s) (f : Frame) {c : CommandId}
    (hc : commandOf f.code = some c) (hm : maintenanceOnly c = false) (hl : lengthFits c f.payload = true) :
    dispatch p f s = runCommand p f.payload s c := by
  have := h.2.2.1
  cases hr : (s.port p).role <;> simp_all [dispatch, roleAdmits]

/-- A 32-bit field coded little-endian reads back as it was (R189). -/
theorem wordAt_bytes (x : BitVec 32) : wordAt (bytesLE 4 x.toNat) 0 = x := by
  apply BitVec.eq_of_toNat_eq
  simp [wordAt, bytesLE, numberLE]
  omega

end Sys2Proof.Machine
end

