-- ==== Sys2Proof/Tests/Slice0.lean ====
section
/-! SUPPORT. Tests: the spec's worked examples, one command on a small state, and a witness for the hypotheses of every
statement. Expected values are the spec's own, at the place each test names, or reckoned by hand from its rule. -/

set_option Elab.async false

namespace Sys2Proof.Machine

/-! ### States to test on -/

/-- A running device at sample time 50,000, which is tick 848 of second 3. -/
def running : State := { State.reset with clock := ⟨50000, 3, 848, false, true⟩ }

/-- A running device with one channel as given. -/
def withOne (c : ChannelId) (f : Channel → Channel) : State := running.withChannel c (f (running.channel c))

/-- Channel 6, which is 2B-R (1.4.1). -/
def ch6 : ChannelId := ⟨.two, .b, .right⟩

/-- The other half of its lane-row, channel 7. -/
def ch7 : ChannelId := ⟨.two, .b, .left⟩

/-- An idle channel with B = 16,000 (1.4.1). -/
def idle16000 : Channel :=
  ⟨.idle, 16000, true, 8192, 0, 0, 0, false, 0, 0, false, false, 0, .untested, none⟩

/-- A channel in a hit that started at 1,001 with area and quiet run as given (1.4.1). -/
def hitting (tLast : Time) (area quietRun quietArea : Nat) : Channel :=
  ⟨.inHit, 16002, true, 8192, 1001, tLast, area, false, quietRun, quietArea, false, false, 0, .untested, none⟩

/-- A pooled hit. -/
def pooled (c : ChannelId) (time receipt : Time) : PoolHit := ⟨c, time, 550, false, false, receipt, 328, receipt + 328⟩

/-- A crossing with both wheels. -/
def crossing (l : Lane) (r : Row) (time : Time) : Crossing :=
  ⟨l, r, time, some ⟨⟨l, r, .right⟩, 13200, false, false⟩, some ⟨⟨l, r, .left⟩, 13306, false, false⟩, false, false, false,
    false⟩

/-- An axle. -/
def axle (time : Time) (speed load : Nat) (spacing : Option Nat) : Axle :=
  ⟨time, speed, spacing, some (load / 2), some (load - load / 2), load, 0, [], []⟩

/-- A vehicle of one axle that has been opened with presence. -/
def oneAxle (state : ContextState) : Context :=
  { emptyContext with
    state := state, openTick := 49000, presenceSeen := true, axles := [axle 49500 22000 4000 none],
    firstTemp := some (320, 16384), closeExpiry := if state = .closing then some 50000 else none }

/-- A record. -/
def record : Record := vehicleRecord running .one (oneAxle .opened) 0

/-- A running device whose ring holds one record. -/
def oneRecord : State := commitRecord record running

/-- A running device whose port P3 holds the claim. -/
def claimed : State :=
  { running with cc := { running.cc with claim := some .p3, claimExpiry := some 50000, revision := 7 } }

/-- The same with its commit waiting, a context open. -/
def committing : State :=
  { (running.withContext .one (oneAxle .opened)) with cc := { running.cc with
      claim := some .p3, waiting := true, commitExpiry := some 50000 } }

/-- A running device with a persist that started 3,277 ticks ago. -/
def persisting : State :=
  { running with cc := { running.cc with
      persist := some (50000 - 3277), store := { running.cc.store with mark := false } } }

/-- The test of 9.7 as accepted at tick 2,000,000. -/
def pattern1 : TestPattern := ⟨true, 3, #v[350, 130, 300, 300, 300, 300, 300], 20000, 512⟩
def test97 : TestContext := newTest builtIn (transitWindow defaultSite 3000) 2000000 .two 1 pattern1

/-- A device on which that test runs, at a tick. -/
def testing (now : Time) : State :=
  { running with
    clock := { running.clock with now := now }, ltg := ⟨running.ltg.modes.set .two .test, some test97, none⟩ }

/-- A port's part replaced. -/
def onPort (p : PortId) (f : Port → Port) : State := running.withPort p (f (running.port p))

/-! ### Well-formed commands -/

theorem test_wf_pairing_index : Instr.wellFormed (.pairingDeadline .one .a 9) = false := by decide
theorem test_wf_unknown_code : Instr.wellFormed (.unknownCommand .p1 0x01 0) = false := by decide
theorem test_wf_entry_length : Instr.wellFormed (.tableWrite .p3 0 (List.replicate 241 0)) = false := by decide +kernel
theorem test_wf_admits :
    Instr.wellFormed (.pairingDeadline .one .a 8) = true ∧ Instr.wellFormed (.unknownCommand .p1 0x81 0) = true ∧
    Instr.wellFormed (.tableWrite .p3 0 (List.replicate 240 0)) = true := by decide +kernel

/-! ### The spec's worked numbers -/

/-- The check value of the nine characters 123456789 under this polynomial and start, as R173 gives it. -/
theorem test_crc : crc16 [0x31, 0x32, 0x33, 0x34, 0x35, 0x36, 0x37, 0x38, 0x39] = 0x29B1#16 := by decide +kernel

/-- The table of R28. -/
theorem test_windows :
    transitWindow defaultSite 3000 = ⟨820, 49152⟩ ∧ transitWindow defaultSite 500 = ⟨137, 8192⟩ ∧
    transitWindow defaultSite 6000 = ⟨1639, 98304⟩ ∧
    transitWindow { defaultSite with vMin := 2000, vMax := 40000 } 3000 = ⟨1229, 24576⟩ := by decide +kernel

/-- The table of R32. -/
theorem test_speeds :
    ([1966, 1967, 1100, 820, 49152].map fun dt =>
      (formAxle running (crossing .one .a 0) (crossing .one .b 0) dt).speed) = [25001, 24988, 44684, 59941, 1000] := by
  decide +kernel

/-- The tables of R49. -/
theorem test_interpolation :
    interpolate [(320, 16384), (640, 17800)] 504 = 17198 ∧ interpolate [(0, 17000), (160, 16384)] 85 = 16673 ∧
    interpolate [(0, 17000), (160, 16384)] 10 = 16961 := by decide +kernel

/-- The lookups of 4.3.1. -/
theorem test_speed_factors :
    ([1500, 2000, 12345, 24988, 25001, 27500, 40000, 44684].map (interpolate
      [(2000, 16900), (5000, 16700), (10000, 16520), (15000, 16400), (20000, 16300), (25000, 16200), (30000, 16000),
       (40000, 15700)])) = [16900, 16900, 16464, 16200, 16200, 16100, 15700, 15700] := by decide +kernel

/-- Row A of 4.4.1: P = 5,036, W0 = 5,287, then Ft 16,900 and Fs 16,200. -/
theorem test_row_load : stagedLoad 13200 25001 4300 16900 16200 = 5393 := by decide +kernel

/-- Row B of 4.4.1. -/
theorem test_row_load_b : stagedLoad 13306 25001 4250 16900 16200 = 5372 := by decide +kernel

/-- The spacings of 5.8: 899 cm and 1,261 cm. -/
theorem test_spacings :
    axleSpacing (axle 199800 22000 0 none) (axle 206500 21980 0 none) = 899 ∧
    axleSpacing (axle 206500 21980 0 none) (axle 216000 21500 0 none) = 1261 := by decide +kernel

/-- Settings in ticks (R75, R110, R161). -/
theorem test_ticks :
    msTicks 300 = 4915 ∧ msTicks 255 = 4178 ∧ pulseSamples 1000 = 3277 ∧ pulseSamples 10000 = 328 ∧
    pulseSamples 20000 = 164 ∧ pulseSamples 60000 = 55 := by decide +kernel

/-- The filter of 3.1.1. -/
theorem test_filter :
    filterStep 4 400 430 = 402 ∧ filterStep 4 402 405 = 402 ∧ filterStep 4 402 394 = 401 ∧
    filterStep 4 401 420 = 402 := by decide +kernel

/-- The segments of 3.3.1. -/
theorem test_segments :
    ([(470, 5), (480, 5), (470, 6), (463, 6), (100, 5)].map fun x =>
      moveSegment builtIn x.1 x.2) = [5, 6, 6, 5, 3] := by decide +kernel

/-- The schedule of 9.7. -/
theorem test_schedule :
    test97.speed = 20000 ∧ test97.pulseLength = 164 ∧ test97.startTime = 2008192 ∧
    test97.rowAStarts = [2008192, 2011059, 2012124] ∧ test97.rowBOffset = 2458 ∧ test97.expiry = 2031130 := by
  decide +kernel

/-- A response of 40 characters at 115,200 bit/s takes 57 ticks (10.2.1). -/
theorem test_response_time : characterTicks .b115200 40 = 57 := by decide

/-- The hit of 1.4.1: its tracking sample, its start, the dip absorbed at 1,006, the quiet sample at 1,008. -/
theorem test_hit_samples :
    sampleChannel defaultChannel 4096 1000 1010 0 idle16000 = { idle16000 with baseline := 16002 } ∧
    sampleChannel defaultChannel 4096 1001 1060 0 { idle16000 with baseline := 16002 } = hitting 1001 60 0 0 ∧
    sampleChannel defaultChannel 4096 1006 1030 0 (hitting 1004 500 1 20) = hitting 1006 550 0 0 ∧
    sampleChannel defaultChannel 4096 1008 995 0 (hitting 1006 550 1 10) = hitting 1006 550 2 10 := by decide +kernel

/-! ### One command on a small state -/

/-- The state after a command. -/
def after (c : Instr) (s : State) : State :=
  match exec c s with
  | .next t => t
  | _ => s

/-- POWER_ON with a blank store: FAULT at the ports that are not DISABLED (R155, R170). -/
theorem test_powerOn :
    let t := after (.powerOn ⟨⟨.enforcement, .b115200⟩, ⟨.disabled, .b115200⟩, ⟨.maintenance, .b1843200⟩⟩)
      { State.reset with powered := false }
    t.cc.storeState = .blank ∧ (t.port .p1).flags = Notice.fault ∧ (t.port .p2).flags = 0 := by decide +kernel

/-- POWER_LOSS in a persist: the next POWER_ON finds the store BLANK (R154). -/
theorem test_powerLoss : (after .powerLoss persisting).powered = false := by decide +kernel

/-- Inputs of a quiet road. -/
def quiet : Inputs := ⟨Quad.ofChan fun _ => 1000#12, Quad.all false, Quad.all (some 320), true⟩

/-- SAMPLE_TICK at tick 16,383 wraps the tick and brings on the site second (R2). -/
theorem test_sampleTick_wraps :
    (after (.sampleTick quiet) { running with clock := ⟨65535, 3, 16383, false, true⟩ }).clock =
      ⟨65536, 3, 0, true, true⟩ := by decide +kernel

/-- The first sample tick reads (0, 0) and seeds the baselines (R1, R2, R4). -/
theorem test_sampleTick_first :
    (after (.sampleTick quiet) State.reset).clock = ⟨0, 0, 0, false, true⟩ ∧
    ((after (.sampleTick quiet) State.reset).channel ch6).baseline = 16000 := by decide +kernel

/-- SETTLING_COMPLETE at the 8,192nd sample, not before (R4). -/
theorem test_settlingComplete :
    ((after (.settlingComplete ch6) (withOne ch6 fun c => { c with settling := 8192 })).channel ch6).state = .idle ∧
    ((after (.settlingComplete ch6) (withOne ch6 fun c => { c with settling := 8191 })).channel ch6).state = .settling :=
  by decide +kernel

/-- The hit of 1.4.1 ends at sample 1,014 and goes to the pool of lane 2 row B with hit time 1,003 and area 550. -/
theorem test_hitEnd :
    let s := { (withOne ch6 fun _ => hitting 1006 550 8 10) with clock := { running.clock with now := 1014 } }
    (after (.hitEnd ch6) s).pool .two .b = [⟨ch6, 1003, 550, false, false, 1014, 328, 1342⟩] := by decide +kernel

/-- A hit of 2 samples is a noise hit of lane 2 (R9). -/
theorem test_hitEnd_noise :
    let t := after (.hitEnd ch6) (withOne ch6 fun _ => hitting 1002 210 8 0)
    t.sfe.noise = ⟨0, 1, 0, 0⟩ ∧ t.pool .two .b = [] ∧ (t.channel ch6).state = .idle := by decide +kernel

/-- MAX_HIT_DURATION_EXCEEDED (R11). -/
theorem test_maxHit :
    let t := after (.maxHitDurationExceeded ch6) (withOne ch6 fun _ => { hitting 1006 550 0 0 with overLong := true })
    (t.channel ch6).state = .held ∧ t.sfe.heldEntries = ⟨0, 1, 0, 0⟩ ∧ (t.port .p2).flags = Notice.fault := by
  decide +kernel

/-- HOLD_COUNT_REACHED (R12). -/
theorem test_holdCount :
    ((after (.holdCountReached ch6) (withOne ch6 fun _ => { idle16000 with state := .held, hold := 8192 })).channel
      ch6).state = .settling := by decide +kernel

/-- SITE_SECOND: probe P1 of 3.1.1 reads 430. -/
theorem test_siteSecond :
    let s := { running with
      clock := { running.clock with secondDue := true }, pins := { running.pins with probes := ⟨some 430, none, none, none⟩ }
      ptu := { running.ptu with probes := running.ptu.probes.set .one ⟨.valid, some 400, 0, false⟩ } }
    (after .siteSecond s).clock.seconds = 4 ∧ (after .siteSecond s).ptu.probes.one = ⟨.valid, some 402, 0, false⟩ := by
  decide +kernel

/-- PAIRING_DEADLINE of two halves 10 ticks apart: one two-sided crossing midway, in the row-A queue (R22, R27, R29). -/
theorem test_pairing :
    let s := running.withPool .one .a
      [pooled ⟨.one, .a, .right⟩ 49000 49100, pooled ⟨.one, .a, .left⟩ 49011 49110]
    let t := after (.pairingDeadline .one .a 0) s
    t.pool .one .a = [] ∧ (t.queue .one).map (·.time) = [49005] := by decide +kernel

/-- A hit alone forms a ONE_SIDED crossing (R25). -/
theorem test_pairing_oneSided :
    let t := after (.pairingDeadline .one .a 0) (running.withPool .one .a [pooled ⟨.one, .a, .right⟩ 49000 49100])
    (t.queue .one).map (fun x => (x.oneSided, x.left)) = [(true, none)] := by decide +kernel

/-- ROW_A_EXPIRY drops what is older than 49,152 ticks, not what is as old (R30). -/
theorem test_rowAExpiry :
    let s := running.withQueue .one [crossing .one .a 847, crossing .one .a 848]
    (after (.rowAExpiry .one) s).queue .one = [crossing .one .a 848] ∧
      (after (.rowAExpiry .one) s).xf.orphanA.one = 1 := by decide +kernel

/-- An entry that expires at the tick of a row-B match is an orphan though its Δt lies in the window (R30, R31). -/
theorem test_rowB_expired :
    let t := routeCrossing (crossing .one .b 49900) (running.withQueue .one [crossing .one .a 847])
    t.xf.orphanA.one = 1 ∧ t.xf.orphanB.one = 1 ∧ (t.context .one).state = .empty := by decide +kernel

/-- PRESENCE_OCCUPIED opens a vehicle in an EMPTY context (R83). -/
theorem test_presenceOccupied :
    ((after (.presenceOccupied .one) running).context .one).state = .opened ∧
    ((after (.presenceOccupied .one) running).context .one).presenceSeen = true := by decide +kernel

/-- PRESENCE_RELEASED starts the close delay of 4,915 ticks (R83, R75). -/
theorem test_presenceReleased :
    ((after (.presenceReleased .one) ((running.withContext .one (oneAxle .opened)).withOccupied .one (some 49000))).context
      .one).closeExpiry = some 54915 := by decide +kernel

/-- CLOSE_DELAY_EXPIRY commits the record of a vehicle of one axle (R84, R90). -/
theorem test_closeDelay :
    let t := after (.closeDelayExpiry .one) (running.withContext .one (oneAxle .closing))
    t.rr.ring.map (fun x => (x.seq, x.gross, x.flags)) = [(1, 4000, Flag.uncalibrated)] ∧
      t.context .one = emptyContext := by decide +kernel

/-- DURATION_EXPIRY of a context without axles counts a ghost (R85, R87). -/
theorem test_duration :
    let s := { (running.withContext .one { emptyContext with state := .opened, openTick := 50000 - 327680 }) with
      clock := { running.clock with now := 50000 } }
    (after (.durationExpiry .one) s).va.ghosts.one = 1 := by decide +kernel

/-- TRIGGER_PULSE_END at its end time (R112); an ACTIVE_LOW output rests high, and low before the set is loaded (R115). -/
theorem test_triggerEnd :
    let low := { running with cc := { running.cc with active := { builtIn with
      lanes := builtIn.lanes.set .one { defaultLane .one with triggerPolarity := .activeLow } } } }
    (after (.triggerPulseEnd .one) (running.withTrigger .one (some 50000))).cle.triggers.one = none ∧
    (after (.triggerPulseEnd .one) (running.withTrigger .one (some 50001))).cle.triggers.one = some 50001 ∧
    triggerOutput low .one = true ∧ triggerOutput { low with powered := false } .one = false := by decide +kernel

/-- INJECTION_PULSE in the test of 9.7: 512 on row A in its first pulse of 164 samples, 0 on row B (R162). -/
theorem test_injection :
    (after .injectionPulse (testing 2008192)).ltg.test.map (fun x => (x.phase, x.supplied)) =
      some (.injecting, ⟨512, 0⟩) ∧
    (after .injectionPulse (testing 2008356)).ltg.test.map (fun x => x.supplied) = some ⟨0, 0⟩ := by decide +kernel

/-- TEST_EXPIRY without a vehicle: SUSPECT with the ratios 0 (R166). -/
theorem test_testExpiry :
    let t := after .testExpiry (testing 2031130)
    t.mode .two = .opened ∧ t.ltg.last.map (fun x => (x.outcome, x.ratios)) = some (.suspect, some [0, 0, 0, 0]) ∧
      (t.channel ch6).health = .suspect := by decide +kernel

/-- A test that completes at the last tick of its injecting phase discards a hit in progress; at the next tick, the first
of its draining, it does not, though INJECTION_PULSE has not come (R16, R162, R165). -/
theorem test_draining :
    let s (now : Time) : State := (testing now).withChannel ch6 (hitting 1003 410 2 0)
    ((completeTest test97 (fun _ => 0) none (s 2014745)).channel ch6).state = .idle ∧
    ((completeTest test97 (fun _ => 0) none (s 2014746)).channel ch6).state = .inHit := by decide +kernel

/-- CLAIM_IDLE_EXPIRY (R147). -/
theorem test_claimIdle :
    (after .claimIdleExpiry claimed).cc.claim = none ∧ ((after .claimIdleExpiry claimed).port .p1).flags = 0x09#5 := by
  decide +kernel

/-- COMMIT_TIMEOUT_EXPIRY and ACTIVATION (R151, R152): the revision rises and the persist starts at this tick. -/
theorem test_activation :
    let t := after .activation (after .commitTimeoutExpiry committing)
    t.cc.revision = 1 ∧ t.cc.claim = none ∧ t.cc.persist = some 50000 ∧ (t.context .one).calChanged = true := by
  decide +kernel

/-- COMMIT with every context EMPTY activates at its tick (R151); a restart of that tick abandons it (R156). -/
theorem test_commit_then_restart :
    let s := after (.commit .p3 0) { claimed with pins := { claimed.pins with restartHigh := true } }
    (after .activation s).cc.revision = 8 ∧
    (after .activation (after .restartTakesEffect (after .restartInput s))).cc.revision = 7 ∧
    (after .restartTakesEffect (after .restartInput s)).cc.persist = none := by decide +kernel

/-- PERSIST_COMPLETE with either outcome (R154). -/
theorem test_persistComplete :
    (after (.persistComplete true) persisting).cc.storeState = .valid ∧
    (after (.persistComplete false) persisting).cc.storeState = .failed ∧
    (after (.persistComplete false) persisting).cc.store.mark = false := by decide +kernel

/-- RESTART_INPUT and RESTART_TAKES_EFFECT (R186, R187): the ring is emptied with its numbering kept. -/
theorem test_restart :
    let t := after .restartTakesEffect
      (after .restartInput { oneRecord with pins := { oneRecord.pins with restartHigh := true } })
    t.rr.ring = [] ∧ t.rr.next = 2 ∧ (t.ringPort .p1).cursor = 2 ∧ (t.port .p1).flags = Notice.maint := by decide +kernel

/-- A NOTICES frame with tag 1 (11.1). -/
def noticesFrame : Frame := ⟨0x04, 0x01, []⟩

/-- CHARACTER_RECEIVED, byte by byte, and FRAME_RECEIVED: the command is answered (R172 to R174). -/
theorem test_characters :
    (after (.frameReceived .p1) ((commandFrame noticesFrame).foldl
      (fun s b => after (.characterReceived .p1 b true) s) running)).port .p1 =
    (after (.notices .p1 0x01) (onPort .p1 fun x => { x with rxLast := 50000 })).port .p1 := by decide +kernel

/-- A framing error in a frame counts and discards it (R171). -/
theorem test_framingError :
    let t := after (.characterReceived .p1 0 false) (onPort .p1 fun x => { x with rx := .assembling [4], rxLast := 49990 })
    (t.port .p1).frameErrors = 1 ∧ (t.port .p1).rx = .hunting := by decide +kernel

/-- LINE_BREAK discards without count (R171); where the gap before it had run past 82 for sure, with one (R172): at
115,200 bit/s a start bit at 82, a stop bit low 9 bits later and 16 ticks of low end within 100. -/
theorem test_lineBreak :
    let s (gap : Time) : State := onPort .p1 fun x => { x with rx := .assembling [4], rxLast := 50000 - gap }
    (after (.lineBreak .p1) (s 100)).port .p1 = { (s 100).port .p1 with rx := .hunting } ∧
    ((after (.lineBreak .p1) (s 101)).port .p1).frameErrors = 1 := by decide +kernel

/-- INTER_BYTE_GAP_TIMEOUT after 83 ticks, not after 82 (R172). -/
theorem test_gap :
    ((after (.interByteGapTimeout .p1) (onPort .p1 fun x => { x with rx := .assembling [4], rxLast := 49917 })).port
      .p1).frameErrors = 1 ∧
    ((after (.interByteGapTimeout .p1) (onPort .p1 fun x => { x with rx := .assembling [4], rxLast := 49918 })).port
      .p1).frameErrors = 0 := by decide +kernel

/-- RESPONSE_SENT takes the buffered frame (R174). -/
theorem test_responseSent :
    let t := after (.responseSent .p1) (onPort .p1 fun x => { x with tx := .sending [] 50000, buffer := some noticesFrame })
    (t.port .p1).buffer = none ∧ (t.port .p1).tx ≠ .idle := by decide +kernel

/-- A device before its first sample tick, its ports P1 and P3 MAINTENANCE with their pointers on probe P1. -/
def unstarted : State :=
  let aim (p : PortId) (s : State) : State :=
    s.withPort p { s.port p with role := .maintenance, pointer := ⟨.probe, 0, .none⟩ }
  aim .p3 (aim .p1 State.reset)

/-- Frames of P3 and then P1 that complete before the first tick are served at it in that order (R188): P3 takes the claim. -/
theorem test_early_order :
    (after (.sampleTick quiet) (after (.tableWrite .p1 0 [0]) (after (.tableWrite .p3 0 [0]) unstarted))).cc.claim =
      some .p3 := by decide +kernel

/-- NOTICE_PULSE_END and REMINDER_EXPIRY in PULSE mode (R185). -/
theorem test_pulses :
    let s := onPort .p1 fun x => { x with
      lineMode := .pulse, reminder := true, pulse := some 50000, reminderExpiry := some 50000 }
    ((after (.noticePulseEnd .p1) s).port .p1).pulse = none ∧
    ((after (.reminderExpiry .p1) s).port .p1).pulse = some 50016 ∧
    ((after (.reminderExpiry .p1) s).port .p1).reminderExpiry = some 58192 := by decide +kernel

/-- The payload of the response that a port is sending: what stands between its length byte and its check value. -/
def reply (p : PortId) (s : State) : List Byte :=
  match (s.port p).tx with
  | .sending frame _ => (frame.drop 5).take (frame.length - 7)
  | .idle => []

/-- UNKNOWN, DENIED and BAD_LENGTH (R175, R176). -/
theorem test_refusals :
    reply .p1 (after (.unknownCommand .p1 0x7F 9) running) = [0x15] ∧
    reply .p1 (after (.commit .p1 9) running) = [0x11] ∧
    reply .p1 (after (.responseSent .p1)
      (onPort .p1 fun x => { x with tx := .sending [] 50000, buffer := some ⟨0x01, 0, [0]⟩ })) = [0x16] := by
  decide +kernel

/-- COUNTERS: a status byte and 28 counters of 4 bytes (R178); CLEAR_COUNTERS zeroes them (R179). -/
theorem test_counters :
    (reply .p1 (after (.counters .p1 0) running)).length = 113 ∧
    (after (.clearCounters .p3 0) (running.countNoise .one)).sfe.noise = Quad.all 0 := by decide +kernel

/-- NOTICES with FAULT pending (R182); ACK_NOTICES of it; SET_NOTICE with a bad mode (R183). -/
theorem test_notices :
    reply .p1 (after (.notices .p1 0) running) = [0, 1, 0, 1, 0] ∧
    reply .p1 (after (.ackNotices .p1 0 1) running) = [0, 0] ∧
    reply .p1 (after (.setNotice .p1 0 0 3 0) running) = [0x10] := by decide +kernel

/-- SET_FILTER, SET_ALERTS and TAKE_ALERT (R125, R131, R132). -/
theorem test_portSettings :
    reply .p1 (after (.setFilter .p1 0 0x0F 1 1) running) = [0, 0x0F, 1, 0, 0, 0, 1] ∧
    reply .p1 (after (.setAlerts .p1 0 2) running) = [0, 2] ∧
    reply .p1 (after (.takeAlert .p1 0) running) = [0x03, 0] := by decide +kernel

/-- FETCH of the one record held: OK, the cursor 2 and none left (R127). -/
theorem test_fetch : (reply .p1 (after (.fetch .p1 0) oneRecord)).take 11 = [0, 2, 0, 0, 0, 0, 0, 1, 0, 0, 0] := by
  decide +kernel

/-- READ_SEQ of a number gone and one not yet committed; SEEK to the end (R128, R130). -/
theorem test_readSeq_seek :
    (reply .p1 (after (.readSeq .p1 0 0 1) oneRecord)).take 1 = [0x04] ∧
    (reply .p1 (after (.readSeq .p1 0 2 1) oneRecord)).take 1 = [0x05] ∧
    reply .p1 (after (.seek .p1 0 2 0) oneRecord) = [0, 2, 0, 0, 0, 1, 0, 0, 0, 2, 0, 0, 0] := by decide +kernel

/-- TABLE_SELECT of SITE and TABLE_READ of it: 8 bytes before its 28 (R142, R143, 11.4). -/
theorem test_table :
    reply .p1 (after (.tableSelect .p1 0 0 1 0) running) = [0x10] ∧
    (reply .p1 (after (.tableRead .p1 0) running)).take 12 = [0, 0, 0, 0, 0, 0, 0, 0, 0x48, 0x01, 0xE8, 0x03] := by
  decide +kernel

/-- TABLE_WRITE of probe P1 off (R144): the claim is taken and the entry stored. -/
theorem test_tableWrite :
    let t := after (.tableWrite .p3 0 [0]) (onPort .p3 fun x => { x with pointer := ⟨.probe, 0, .increment⟩ })
    t.cc.claim = some .p3 ∧ t.cc.edits.probes.one = false ∧ (t.port .p3).pointer.index = 1 := by decide +kernel

/-- COMMIT without a claim is INVALID; DISCARD of the holder answers released with revision 7 (R148, R149). -/
theorem test_commit_discard :
    reply .p3 (after (.commit .p3 0) running) = [0x14, 0xFF, 0xFF] ∧
    reply .p3 (after (.discard .p3 0) claimed) = [0, 1, 7, 0, 0, 0] := by decide +kernel

/-- LANE_MODE to CLOSED (R157, R158); a lane number 5 is refused. -/
theorem test_laneMode :
    let t := after (.laneMode .p3 0 2 1) running
    t.mode .two = .closed ∧ (t.channel ch6).state = .off ∧ reply .p3 (after (.laneMode .p3 0 5 1) running) = [0x10] := by
  decide +kernel

/-- LANE_TEST with the built-in pattern 0 on lane 1 at tick 50,000 (R160): t0 58,192; v_t 10,000. -/
theorem test_laneTest :
    (reply .p3 (after (.laneTest .p3 0 1 0) running)).take 7 = [0, 0x50, 0xE3, 0, 0, 0x10, 0x27] ∧
    reply .p3 (after (.laneTest .p3 0 1 1) running) = [0x14] := by decide +kernel

/-- CHANNEL_RESUME of channel 6 HELD and of an index 16 (R13); SET_CLOCK (R179); RESTART (R186). -/
theorem test_maintenance :
    reply .p3 (after (.channelResume .p3 0 6) (withOne ch6 fun c => { c with state := .held })) = [0, 1] ∧
    reply .p3 (after (.channelResume .p3 0 16) running) = [0x10] ∧
    reply .p3 (after (.setClock .p3 0 258) running) = [0, 2, 1, 0, 0, 0x50, 0x03] ∧
    reply .p3 (after (.restart .p3 0) persisting) = [0, 1] := by decide +kernel

/-! ### Witnesses: states and operands that meet the hypotheses of each statement, at the bounds where its cases meet -/

theorem running_live : Live running := by unfold Live; decide +kernel
theorem running_taking (p : PortId) : Taking p running := by cases p <;> (unfold Taking Live; decide +kernel)
theorem running_takingAny : TakingAny .p3 running := by unfold TakingAny Taking Live; decide +kernel
theorem claimed_takingAny : TakingAny .p3 claimed := by unfold TakingAny Taking Live; decide +kernel
theorem committing_takingAny : TakingAny .p3 committing := by unfold TakingAny Taking Live; decide +kernel
theorem persisting_takingAny : TakingAny .p3 persisting := by unfold TakingAny Taking Live; decide +kernel
theorem oneRecord_taking : Taking .p1 oneRecord := by unfold Taking Live; decide +kernel
theorem running_commitInv : CommitInv running := by intro h; exact absurd h (by decide +kernel)

/-- A record held: the ring's run is unbroken and every cursor stands on it. -/
theorem oneRecord_ringInv : RingInv oneRecord := by
  have hr : oneRecord.rr.ring = [{ record with seq := 1 }] := by decide +kernel
  have hn : oneRecord.rr.next = 2 := by decide +kernel
  refine ⟨⟨by rw [hr]; decide, fun i x h => ?_⟩, fun p _ => by cases p <;> decide +kernel⟩
  rw [hr] at h ⊢
  rw [hn]
  cases i <;> simp at h
  subst h; decide +kernel

/-- The reset state's ring, with none held. -/
theorem running_ringInv : RingInv running := by
  refine ⟨⟨by decide +kernel, fun i x h => ?_⟩, fun p _ => by cases p <;> decide +kernel⟩
  have hr : running.rr.ring = [] := by decide +kernel
  rw [hr] at h; simp at h

theorem witness_StepTakesFront :
    ({ running with pending := [.siteSecond, .activation] } : State).pending = .siteSecond :: [.activation] ∧
    running.pending = [] := by decide +kernel

/-- Nothing due, an activation due, and a restart due. -/
theorem witness_EveryCommandAnswers :
    let due := { committing with cc := { committing.cc with activationDue := true } }
    let restart := { running with cc := { running.cc with restartDue := true } }
    (∀ straps, Instr.siteSecond ≠ .powerOn straps) ∧ ({ running with powered := false } : State).powered = false ∧
    (running.powered = true ∧ running.cc.activationDue = false ∧ running.cc.restartDue = false) ∧
    (due.powered = true ∧ due.cc.activationDue = true ∧ due.cc.restartDue = false) ∧
    restart.powered = true ∧ restart.cc.restartDue = true :=
  ⟨fun _ => by simp, rfl, by decide +kernel, by decide +kernel, by decide +kernel⟩

/-- A store that is valid, and one without its mark; a persist running, and none. -/
theorem witness_CalibrationAcrossPower :
    let off := { State.reset with powered := false }
    let stored := { off with cc := { off.cc with store := ⟨true, builtIn, 5, true⟩ } }
    (off.powered = false ∧ off.cc.persist = none ∧ ¬(off.cc.store.mark = true ∧ off.cc.store.checkAgrees = true)) ∧
    (stored.powered = false ∧ stored.cc.persist = none ∧ stored.cc.store.mark = true ∧
      stored.cc.store.checkAgrees = true) ∧
    Live persisting ∧ persisting.cc.persist.isSome = true ∧ Live running ∧ running.cc.persist.isSome = false := by
  unfold Live; decide +kernel

/-- Nothing due at a tick, in the middle of a second and at its last tick; before the first tick. -/
theorem witness_SampleTickActs :
    let last := { running with clock := ⟨65535, 3, 16383, false, true⟩ }
    (running.powered = true ∧ running.clock.started = true ∧ dueNow running = false) ∧
    (last.powered = true ∧ last.clock.started = true ∧ dueNow last = false) ∧
    State.reset.powered = true ∧ State.reset.clock.started = false ∧ dueNow State.reset = false := by decide +kernel

/-- Frames of two ports that completed before the first tick. -/
theorem witness_SampleTickActs_early :
    let s := after (.tableWrite .p1 0 [0]) (after (.tableWrite .p3 0 [0]) unstarted)
    s.powered = true ∧ s.clock.started = false ∧ dueNow s = false ∧ s.early = [(.p3, ⟨0x22, 0, [0]⟩), (.p1, ⟨0x22, 0, [0]⟩)] := by
  decide +kernel

theorem witness_ClockStaysAligned :
    ClockInv running ∧ step running = .next running := by
  exact ⟨by unfold ClockInv; decide +kernel, rfl⟩

/-- Each state; in IDLE the excess at the threshold of 48 and one below; in IN_HIT at the end level of 24 and one below; the
settings at both ends, and values at the ends of their ranges. -/
theorem witness_ChannelHandlesSample :
    let e (x : Nat) : Int := (x : Int) - ((16002 / 16 : Nat) : Int) + 0
    (startThreshold defaultChannel ≤ e 1048 ∧ e 1047 < startThreshold defaultChannel) ∧
    (endLevel defaultChannel ≤ e 1024 ∧ e 1023 < endLevel defaultChannel) ∧
    (idle16000.state = .idle ∧ (hitting 1006 550 0 0).state = .inHit ∧ (hitting 1006 550 0 0).area ≤ 16777215) ∧
    (initialChannel true).state = .settling ∧ (initialChannel false).state = .off ∧
    ({ idle16000 with state := .held } : Channel).state = .held ∧
    startThreshold { defaultChannel with coarse := 3, fine := 15 } = 222 ∧
    startThreshold { defaultChannel with coarse := 0, fine := 0 } = 24 ∧
    ({ idle16000 with baseline := 65535 } : Channel).baseline ≤ 65535 ∧ (hitting 1006 16777215 0 0).area ≤ 16777215 := by
  decide +kernel

theorem witness_ChannelStateEvents :
    let settled := withOne ch6 fun c => { c with settling := 8192 }
    let quiet := withOne ch6 fun _ => { idle16000 with state := .held, hold := 8192 }
    let long := withOne ch6 fun _ => { hitting 1006 550 0 0 with overLong := true }
    (Live settled ∧ (settled.channel ch6).state = .settling ∧ 8192 ≤ (settled.channel ch6).settling) ∧
    (Live quiet ∧ (quiet.channel ch6).state = .held ∧ 8192 ≤ (quiet.channel ch6).hold) ∧
    Live long ∧ (long.channel ch6).state = .inHit ∧ (long.channel ch6).overLong = true := by
  unfold Live; decide +kernel

/-- A hit of 2 samples, a hit of 3, a pool of eight hits, and a pool whose hit of the same time and receipt is the LEFT. -/
theorem witness_HitEndActs :
    let noise := withOne ch6 fun _ => hitting 1002 210 8 0
    let hit := withOne ch6 fun _ => hitting 1003 410 8 0
    let full := hit.withPool .two .b (List.replicate 8 (pooled ch7 900 950))
    let twin := hit.withPool .two .b [pooled ch7 1002 50000]
    (Live noise ∧ (noise.channel ch6).state = .inHit ∧ 8 ≤ (noise.channel ch6).quietRun ∧
      ((noise.channel ch6).tLast - (noise.channel ch6).tStart).toNat + 1 ≤ 2) ∧
    (Live hit ∧ (hit.channel ch6).state = .inHit ∧ 8 ≤ (hit.channel ch6).quietRun ∧
      3 ≤ ((hit.channel ch6).tLast - (hit.channel ch6).tStart).toNat + 1 ∧ (hit.pool .two .b).length < 8) ∧
    Live full ∧ 8 ≤ (full.pool .two .b).length ∧
    ((after (.hitEnd ch6) twin).pool .two .b).map (fun h => h.channel) = [ch6, ch7] := by unfold Live; decide +kernel

theorem witness_HitEndActs_commit : CommitInv (withOne ch6 fun _ => hitting 1003 410 8 0) := by
  intro h; exact absurd h (by decide +kernel)

/-- No FAULT, and FAULT on the six hundredth rejected reading. -/
theorem witness_SiteSecondActs :
    let s := { running with clock := { running.clock with secondDue := true } }
    let t := { s with ptu := { s.ptu with probes := s.ptu.probes.set .one ⟨.holding, some 400, 599, false⟩ } }
    (Live s ∧ s.clock.secondDue = true) ∧ (Live t ∧ t.clock.secondDue = true) ∧
    (readProbeInput s.set.site none (s.ptu.probes.get .one)).2 = false ∧
    (readProbeInput t.set.site none (t.ptu.probes.get .one)).2 = true := by unfold Live; decide +kernel

/-- Readings at the ends of the accepted range and beyond them; a rejected count one below its limit and at it. -/
theorem witness_ProbeReadingAndFilter :
    (2 ≤ defaultSite.staleLimit ∧ (-640 : Int) ≤ -640 ∧ (1360 : Int) ≤ 1360 ∧ ¬((1361 : Int) ≤ 1360)) ∧
    (∀ t, (none : Option Int) = some t → ¬(-640 ≤ t ∧ t ≤ 1360)) ∧
    defaultSite.staleLimit ≤ 599 + 1 ∧ ¬(defaultSite.staleLimit ≤ 598 + 1) ∧
    readProbeInput defaultSite (some 1361) ⟨.valid, some 401, 0, false⟩ = (⟨.holding, some 401, 1, false⟩, false) := by
  refine ⟨by decide, fun _ h => by simp at h, ?_⟩; decide

/-- A PROBE lane, a MEAN lane and a FIXED lane, with probes usable and not. -/
theorem witness_EffectiveTemperature :
    let v : Probe := ⟨.valid, some 161, 0, false⟩
    let h : Probe := ⟨.holding, some 160, 2, false⟩
    let x : Probe := ⟨.stale, none, 600, true⟩
    let e := { defaultLane .one with kind := .mean, probeQ := .two, alternate := some .three }
    effectiveTemp ⟨v, h, x, x⟩ e = (161, false) ∧ effectiveTemp ⟨v, x, x, x⟩ e = (161, true) ∧
    effectiveTemp ⟨x, x, h, x⟩ e = (160, true) ∧ effectiveTemp ⟨x, x, x, x⟩ e = (320, true) ∧
    effectiveTemp ⟨v, x, x, x⟩ (defaultLane .one) = (161, false) ∧
    effectiveTemp ⟨v, x, x, x⟩ { e with kind := .fixed } = (320, false) := by decide

/-- The points of R49, at the first point, at the last, and between. -/
theorem witness_InterpolationOverPoints :
    let pts : List (Int × Int) := [(0, 17000), (160, 16384)]
    pts.Pairwise (fun p q => p.1 < q.1) ∧ pts.head? = some (0, 17000) ∧ pts.getLast? = some (160, 16384) ∧
    pts[0]? = some (0, 17000) ∧ pts[0 + 1]? = some (160, 16384) ∧ (0 : Int) ≤ 85 ∧ (85 : Int) < 160 ∧
    interpolate pts 0 = 17000 ∧ interpolate pts 160 = 16384 := by decide

/-- Segments at both ends; an applied factor below, at and above its target; a segment set afresh at its point. -/
theorem witness_LaneTemperatureUpdate :
    (1 ≤ 1 ∧ 8 ≤ 8 ∧ moveSegment builtIn 960 1 = 8 ∧ moveSegment builtIn (-481) 8 = 1) ∧
    moveApplied defaultControls 16384 16384 = 16384 ∧ moveApplied defaultControls 16384 16000 = 16064 ∧
    moveApplied defaultControls 16384 16400 = 16384 ∧
    (freshLaneTemp builtIn (Quad.all ⟨.stale, none, 0, false⟩) (defaultLane .one)).temp = 320 := by decide +kernel

/-- Two halves of lane 1 row A, the first with its deadline reached. -/
def twoHalves : State :=
  running.withPool .one .a [pooled ⟨.one, .a, .right⟩ 49000 49100, pooled ⟨.one, .a, .left⟩ 49328 49400]

theorem twoHalves_keyed : PoolsKeyed twoHalves := by
  intro l r; cases l <;> cases r <;> decide +kernel

/-- The candidate lies at the window of 328 ticks exactly. -/
theorem witness_PairingOwnLane :
    let h := pooled ⟨.one, .a, .right⟩ 49000 49100
    let k := pooled ⟨.one, .a, .left⟩ 49328 49400
    Live twoHalves ∧ (∀ k ∈ twoHalves.pool .one .a, elapsed twoHalves.now k.receipt < 2 ^ 31) ∧
    (twoHalves.pool .one .a)[0]? = some h ∧ reached twoHalves.now h.deadline = true ∧
    k ∈ (twoHalves.pool .one .a).erase h ∧ k.channel.half = h.channel.half.opposite ∧ timeGap k.time h.time ≤ h.window := by
  unfold Live; decide +kernel

/-- A LEFT half of lane 1 alone, and with a RIGHT half of lane 2 within its window. -/
def straddling : State :=
  (running.withPool .one .a [pooled ⟨.one, .a, .left⟩ 49000 49100]).withPool .two .a
    [pooled ⟨.two, .a, .right⟩ 49328 49400]

theorem straddling_keyed : PoolsKeyed straddling := by intro l r; cases l <;> cases r <;> decide +kernel

/-- Two candidates equally close, the one received earlier further back in its pool. -/
def tiedStraddle : State :=
  straddling.withPool .two .a [pooled ⟨.two, .a, .right⟩ 48900 49450, pooled ⟨.two, .a, .right⟩ 49100 49400]

theorem witness_PairingStraddleOrOneSided :
    let h := pooled ⟨.one, .a, .left⟩ 49000 49100
    let k := pooled ⟨.two, .a, .right⟩ 49328 49400
    (Live straddling ∧ (straddling.pool .one .a)[0]? = some h ∧ reached straddling.now h.deadline = true) ∧
    (∀ m ∈ [Ix4.one, .two, .three, .four], ∀ k ∈ straddling.pool m .a, elapsed straddling.now k.receipt < 2 ^ 31) ∧
    (∀ k ∈ (straddling.pool .one .a).erase h, k.channel.half = h.channel.half.opposite →
      h.window < timeGap k.time h.time) ∧
    (laneNumber .two = laneNumber .one + 1 ∧ straddling.mode .one = .opened ∧ straddling.mode .two = .opened) ∧
    (k ∈ straddling.pool .two .a ∧ k.channel.half = h.channel.half.opposite ∧ timeGap k.time h.time ≤ h.window ∧
      ∀ z ∈ straddling.pool .two .a, z.channel.half = h.channel.half → h.window < timeGap z.time k.time) ∧
    (straddling.withMode .two .closed).mode .two ≠ .opened ∧
    ((after (.pairingDeadline .one .a 0) tiedStraddle).pool .two .a).map (fun k => k.time) = [48900] := by
  unfold Live; decide +kernel

/-- The four occupancies of R24. -/
theorem witness_StraddleLane :
    let s (a b : Option Time) : State := (running.withOccupied .one a).withOccupied .two b
    straddleLane (s (some 1) none) .one .two = .one ∧ straddleLane (s none (some 1)) .one .two = .two ∧
    straddleLane (s (some 2) (some 1)) .one .two = .two ∧ straddleLane (s (some 1) (some 1)) .one .two = .one ∧
    straddleLane (s none none) .one .two = .one := by decide +kernel

/-- A queue of fifteen, a queue of sixteen, and a crossing of equal time. -/
theorem witness_RowAQueueOrderAndExpiry :
    let full := running.withQueue .one (List.replicate 16 (crossing .one .a 49000))
    (crossing .one .a 49000).row = .a ∧ 16 ≤ (full.queue .one).length ∧ ¬(16 ≤ (running.queue .one).length) ∧
    Live full := by unfold Live; decide +kernel

/-- Heads at Δt_max and one beyond it, at Δt_min and one below it; an entry that expires at this tick though its Δt is in
the window. -/
theorem witness_RowBCrossingMatches :
    let b := crossing .one .b 50000
    let w := running.xf.windows.get b.lane
    let q := [crossing .one .a 847, crossing .one .a 49180]
    b.row = .b ∧ ((w.dtMax : Int) < timeDiff b.time (crossing .one .a 847).time) ∧
    timeDiff b.time (crossing .one .a 848).time ≤ w.dtMax ∧ (w.dtMin : Int) ≤ timeDiff b.time (crossing .one .a 49180).time ∧
    timeDiff b.time (crossing .one .a 49181).time < w.dtMin ∧
    (((running.withQueue .one q).queue .one).filter fun x => !decide (w.dtMax < (running.now - x.time).toNat)) =
      [] ++ [crossing .one .a 49180] ∧
    timeDiff (crossing .one .b 49900).time (crossing .one .a 847).time ≤ w.dtMax := by decide +kernel

/-- Both ends of the window of the built-in set. -/
theorem witness_AxleFormation :
    let w := transitWindow running.set.site (running.set.lanes.get .one).spacing
    0 < w.dtMin ∧ 0 < running.set.site.vMin ∧ 0 < running.set.site.vMax ∧ w.dtMin ≤ w.dtMin ∧ w.dtMin ≤ w.dtMax := by
  decide +kernel

theorem witness_AxleLoadArithmetic : ∀ x ∈ [32767, 32767], x ≤ 32767 := by decide

theorem witness_LoadComputation :
    (formAxle running (crossing .one .a 0) (crossing .one .b 1966) 1966).flags.toNat < 64 := by decide +kernel

/-- An EMPTY context, one opened by presence, and one with an axle whose next stands at the split distance of 1,200 cm; a
test lane and another. -/
theorem witness_AxleOpensOrJoins :
    let s := running.withContext .one { emptyContext with state := .opened }
    let t := running.withContext .one (oneAxle .closing)
    let last := axle 49500 22000 4000 none
    (running.context .one).state = .empty ∧ ((s.context .one).state ≠ .empty ∧ (s.context .one).axles = []) ∧
    ((t.context .one).state ≠ .empty ∧ (t.context .one).axles.getLast? = some last ∧
      0 < timeDiff (axle 58437 22000 4000 none).time last.time ∧
      axleSpacing last (axle 58437 22000 4000 none) = 1200 ∧ (t.context .one).axles.length < 16) ∧
    (testing 2010000).ltg.test = some test97 ∧ test97.lane = .two ∧ running.testLane ≠ some .one := by decide +kernel

/-- Beyond the split distance by 1 cm; out of order at an equal time; and a seventeenth axle. -/
theorem witness_SplitAndTruncation :
    let last := axle 49500 22000 4000 none
    let full := running.withContext .one { oneAxle .opened with axles := List.replicate 16 last }
    (full.context .one).state ≠ .empty ∧ (full.context .one).axles.getLast? = some last ∧
    timeDiff (axle 49500 22000 0 none).time last.time ≤ 0 ∧ axleSpacing last (axle 58441 22000 0 none) = 1201 ∧
    full.set.site.splitDistance < axleSpacing last (axle 58441 22000 0 none) ∧
    0 < timeDiff (axle 50000 22000 0 none).time last.time ∧
    axleSpacing last (axle 50000 22000 0 none) ≤ full.set.site.splitDistance ∧ 16 ≤ (full.context .one).axles.length := by
  decide +kernel

/-- Each state of the context, occupied and not; a CLOSED lane; a lane in TEST. -/
theorem witness_PresenceEventsAct :
    let s (c : Context) : State := running.withContext .one c
    let o (c : Context) : State := (s c).withOccupied .one (some 49000)
    (Live running ∧ running.clock.started = true ∧ running.mode .one = .opened ∧ running.testLane ≠ some .one ∧
      running.isOccupied .one = false ∧ (running.context .one).state = .empty) ∧
    ((s (oneAxle .opened)).context .one).state = .opened ∧
    ((s { oneAxle .closing with presenceSeen := false }).context .one).presenceSeen = false ∧
    ((s (oneAxle .closing)).context .one).successor = none ∧
    ((s { oneAxle .closing with successor := some (49500, ⟨3, 0⟩) }).context .one).successor ≠ none ∧
    ((o (oneAxle .opened)).isOccupied .one = true ∧ (o (oneAxle .opened)).mode .one ≠ .closed) ∧
    ((o (oneAxle .closing)).context .one).state ≠ .opened ∧ (running.withMode .one .closed).mode .one = .closed ∧
    (Live (testing 2000000) ∧ (testing 2000000).clock.started = true ∧ (testing 2000000).mode .two = .test ∧
      (testing 2000000).ltg.test = some test97 ∧ test97.lane = .two ∧ (testing 2000000).isOccupied .two = false) := by
  unfold Live; decide +kernel

/-- A close delay reached at its tick; a duration of exactly 20 s. -/
theorem witness_VehicleTimersClose :
    let s := running.withContext .one (oneAxle .closing)
    let t := running.withContext .one { oneAxle .opened with openTick := 50000 - 327680 }
    (Live s ∧ (s.context .one).state = .closing ∧ (s.context .one).closeExpiry = some 50000 ∧
      reached s.now 50000 = true) ∧
    Live t ∧ (t.context .one).state ≠ .empty ∧
    t.set.site.maxDuration * 16384 ≤ (t.now - (t.context .one).openTick).toNat := by unfold Live; decide +kernel

/-- A vehicle without axles, with one, and with one on the test lane; a trigger at its end time. -/
theorem witness_VehicleClosesAndTriggers :
    let s := (testing 2014000).withContext .two (oneAxle .opened)
    (running.context .one).axles = [] ∧ ((running.withContext .one (oneAxle .opened)).context .one).axles ≠ [] ∧
    running.testLane ≠ some .one ∧ (s.context .two).axles ≠ [] ∧ s.ltg.test = some test97 ∧ test97.lane = .two ∧
    Live (running.withTrigger .one (some 50000)) ∧
    (running.withTrigger .one (some 50000)).cle.triggers.get .one = some 50000 ∧ reached running.now 50000 = true ∧
    running.powered = true ∧ running.cle.triggers.get .one = none := by unfold Live; decide +kernel

theorem witness_RecordOfVehicle :
    (oneAxle .opened).axles ≠ [] ∧ (oneAxle .opened).axles.length ≤ 16 ∧
    ∀ a ∈ (oneAxle .opened).axles, a.load ≤ 65534 := by decide

/-- A table whose second entry is enabled and met by two axles 350 cm apart, at its bounds. -/
theorem witness_ClassWalk :
    let e : ClassEntry := { defaultClass with enabled := true, code := 5, countMin := 2, countMax := 2,
                                              rules := (Vector.replicate 8 none).set 0 (some (350, 350)), profile := 3 }
    matchClass { builtIn with classes := builtIn.classes.set 1 e } 2 [350] 0 = (5, 3) ∧
    matchClass { builtIn with classes := builtIn.classes.set 1 e } 2 [351] 0 = (0, 0) ∧
    matchClass { builtIn with classes := builtIn.classes.set 1 e } 1 [] 0 = (0, 0) := by decide +kernel

/-- Two axles within the group distance of 200 cm and a third 201 cm behind. -/
theorem witness_AxleGroupsAreRuns :
    let axles := [axle 0 20000 1000 none, axle 1 20000 2000 (some 200), axle 2 20000 3000 (some 201)]
    (axles[0]?.map (·.spacing) = some none ∧ axles[1]?.map (·.spacing) = some (some 200)) ∧
    axleGroups 200 axles = [⟨1, 2, 3000⟩, ⟨3, 1, 3000⟩] := by decide +kernel

/-- The tandem limit of R106: 17,850 kg is within it and 17,851 kg exceeds it, without flags and with one. -/
theorem witness_ChecksDecideAlert :
    let set := { builtIn with profiles := builtIn.profiles.set 0 ⟨0, 17000, 0, 0⟩ }
    let axles (x : Nat) := [axle 0 20000 8000 none, axle 1 20000 x (some 150)]
    (evaluate set (axles 9850) 17850 0).alert = .none ∧
    evaluate set (axles 9851) 17851 0 = ⟨0, 0, 1, .enforceable, some ⟨50, .tandem, some 1⟩⟩ ∧
    (evaluate set (axles 9851) 17851 Flag.noPresence).alert = .advisory := by decide +kernel

/-- Ports that are DISABLED and not; a port in PULSE mode whose set is empty, with the reminder on and off. -/
theorem witness_CommitOfRecord :
    let s (on : Bool) : State := onPort .p1 fun x => { x with flags := 0, lineMode := .pulse, reminder := on }
    (running.port .p1).role ≠ .disabled ∧ ((onPort .p1 fun x => { x with role := .disabled }).port .p1).role = .disabled ∧
    ((commitRecord record (s true)).port .p1).reminderExpiry = some 58192 ∧
    ((commitRecord record (s false)).port .p1).reminderExpiry = none := by
  decide +kernel

theorem witness_RingKeepsItsRun : RingInv oneRecord ∧ step oneRecord = .next oneRecord :=
  ⟨oneRecord_ringInv, rfl⟩

/-- The one record held passes the filter; under a class mask of 0 it is skipped. -/
theorem witness_FetchWalksTheRing :
    let all := oneRecord.rr.ring.drop (oneRecord.rr.ring.length - (oneRecord.rr.next - (oneRecord.ringPort .p1).cursor).toNat)
    Taking .p1 oneRecord ∧ RingInv oneRecord ∧ all = [] ++ [{ record with seq := 1 }] ∧
    passesFilter (oneRecord.ringPort .p1) record = true ∧
    passesFilter { oneRecord.ringPort .p1 with classMask := 0 } record = false :=
  ⟨oneRecord_taking, oneRecord_ringInv, by decide +kernel, by decide +kernel, by decide +kernel⟩

/-- A record with its worst check an axle group and its first temperature below zero, at the ends of several ranges. -/
theorem witness_RecordsAreCoded :
    let w : Worst := ⟨65535, .tandem, some 16⟩
    let x : Record := { record with firstTemp := -640, worst := some w, code := 31, profile := 15, gross := 1048575 }
    let b := recordBytes .full x 1
    x.openTime.tick < 16384 ∧ x.closeTime.tick < 16384 ∧ x.axleCount ≤ 16 ∧ x.speed ≤ 60000 ∧ x.firstFt ≤ 32767 ∧
    x.groupCount ≤ 16 ∧ b.length = 61 ∧ numberAt b 31 2 = 64896 ∧ numberAt b 30 1 = 16 ∧ numberAt b 57 2 = 4000 ∧
    (alertBytes (alertEntry x)).length = 17 := by decide +kernel

/-- Sequence numbers gone, held and not yet committed; a record of one axle asked for from its first and its second. -/
theorem witness_ReadSeqAndSeek :
    Taking .p1 oneRecord ∧ RingInv oneRecord ∧ oneRecord.rr.ring.length < (oneRecord.rr.next - 0).toNat ∧
    (oneRecord.rr.next - 2).toNat = 0 ∧ { record with seq := 1 } ∈ oneRecord.rr.ring ∧
    (oneRecord.ringPort .p1).format = .full ∧ record.axleCount < (2#8).toNat ∧ ¬(record.axleCount < (1#8).toNat) :=
  ⟨oneRecord_taking, oneRecord_ringInv, by decide +kernel, by decide +kernel, by decide +kernel, by decide +kernel,
    by decide +kernel, by decide +kernel⟩

/-- An empty ring, where NEWEST and the explicit number 1 stand at the next. -/
theorem witness_SeekEmpty : Taking .p1 running ∧ RingInv running ∧ running.rr.ring = [] ∧ (running.rr.next - 1).toNat = 0 :=
  ⟨running_taking .p1, running_ringInv, by decide +kernel, by decide +kernel⟩

/-- An alert queue with an entry, and one without. -/
theorem witness_PortRingSettings :
    let s := running.withRingPort .p1 { running.ringPort .p1 with alerts := [alertEntry record] }
    Taking .p1 s ∧ (s.ringPort .p1).alerts = alertEntry record :: [] ∧ Taking .p1 running ∧
    (running.ringPort .p1).alerts = [] := by unfold Taking Live; decide +kernel

/-- A pointer at the last entry and one past it. -/
theorem witness_TableSelectAndRead :
    let s (i : Nat) : State := onPort .p1 fun x => { x with pointer := ⟨.probe, i, .increment⟩ }
    Taking .p1 (s 3) ∧ ((s 3).port .p1).pointer.index < entryCount .probe ∧ Taking .p1 (s 4) ∧
    entryCount ((s 4).port .p1).pointer.table ≤ ((s 4).port .p1).pointer.index ∧ tableCode .probe = (3#8).toNat := by
  unfold Taking Live; decide +kernel

/-- Each refusal's state, and one that accepts. -/
theorem witness_TableWriteActs :
    let s := onPort .p3 fun x => { x with pointer := ⟨.probe, 0, .none⟩ }
    (TakingAny .p3 s ∧ (s.port .p3).pointer.index < entryCount (s.port .p3).pointer.table ∧
      [(0#8)].length = entryLength (s.port .p3).pointer.table (s.port .p3).pointer.index ∧ s.cc.waiting = false ∧
      s.cc.claim = none) ∧
    committing.cc.waiting = true ∧ claimed.cc.claim ≠ some .p1 := by unfold TakingAny Taking Live; decide +kernel

/-- Every entry of the built-in set lies within its ranges, here of three tables. -/
theorem witness_TableEntryRoundTrip :
    EntryInRange builtIn .site 0 ∧ EntryInRange builtIn .temp 8 ∧ EntryInRange builtIn .testpat 3 := by
  refine ⟨by unfold EntryInRange; decide +kernel, by unfold EntryInRange; decide +kernel, ?_⟩
  unfold EntryInRange
  refine ⟨by decide +kernel, by decide +kernel, ?_, by decide +kernel⟩
  have h : builtIn.site.vMin < builtIn.site.vMax := by decide +kernel
  rw [if_pos h]; decide +kernel

/-- A point with its temperature below the range and its factor above it, and a choice without a value. -/
theorem witness_WrittenFieldsAreClamped :
    let point : List Byte := [0x00, 0x80, 0xFF, 0xFF]
    0 < entryCount .temp ∧ point.length = entryLength .temp 0 ∧
    storedFields builtIn .temp 0 (fieldsLE (entryWidths .temp 0) point) = [64896, 32767] ∧
    (storeEntry builtIn .temp 0 point).2 = [1, 2] ∧
    storedFields builtIn .probe 0 [2] = [1] ∧ (storeEntry builtIn .probe 0 [2]).2 = [1] := by decide +kernel

/-- Without a claim, with another's, waiting, in a persist, at the last revision, and accepted; a set that fails each check. -/
theorem witness_CommitActs :
    TakingAny .p3 running ∧ running.cc.claim = none ∧ TakingAny .p3 claimed ∧ claimed.cc.claim = some .p3 ∧
    claimed.cc.waiting = false ∧ validationFailure claimed.cc.edits = none ∧ claimed.cc.persist = none ∧
    claimed.cc.revision ≠ 0xFFFFFFFF#32 ∧ TakingAny .p3 committing ∧ committing.cc.waiting = true ∧
    (∃ o, ({ claimed.cc with claim := some .p1 } : Cc).claim = some o ∧ o ≠ .p3) ∧
    validationFailure { builtIn with site := { builtIn.site with vMin := 60000 } } = some (.site, 0) ∧
    validationFailure { builtIn with temp := builtIn.temp.set 7 ⟨-640, 16384⟩ } = some (.temp, 7) ∧
    validationFailure { builtIn with speed := builtIn.speed.set 0 ⟨60000, 16384⟩ } = some (.speed, 1) ∧
    validationFailure { builtIn with classes := builtIn.classes.set 2 { defaultClass with countMin := 16, countMax := 1 } } =
      some (.cls, 2) ∧
    validationFailure { builtIn with
      site := { builtIn.site with vMin := 59900, vMax := 60000 }
      lanes := builtIn.lanes.set .three { defaultLane .three with spacing := 500 } } = some (.lane, 2) :=
  ⟨running_takingAny, by decide +kernel, claimed_takingAny, by decide +kernel, by decide +kernel, by decide +kernel,
    by decide +kernel, by decide +kernel, committing_takingAny, by decide +kernel, ⟨.p1, by decide +kernel, by decide⟩,
    by decide +kernel⟩

theorem witness_DiscardAndClaimIdle :
    TakingAny .p3 claimed ∧ claimed.cc.claim = some .p3 ∧ Live claimed ∧ claimed.cc.claim.isSome = true ∧
    claimed.cc.waiting = false ∧ claimed.cc.claimExpiry = some 50000 ∧ reached claimed.now 50000 = true :=
  ⟨claimed_takingAny, by decide +kernel, claimed_takingAny.1.1, by decide +kernel, by decide +kernel, by decide +kernel,
    by decide +kernel⟩

/-- The timeout reached in COMMIT_WAIT with a context open; an activation due, and one of this tick's commit; a polarity
that changes; a context open for the new max duration; and every context EMPTY. -/
theorem witness_ActivationTakesEffect :
    let edits := { builtIn with
      site := { builtIn.site with maxDuration := 2 }
      lanes := builtIn.lanes.set .two { defaultLane .two with presencePolarity := .activeLow } }
    let due := { committing with cc := { committing.cc with commitExpiry := none, activationDue := true, edits := edits } }
    let near := after (.commit .p3 0) claimed
    let t := after .activation due
    (due.powered = true ∧ due.cc.activationDue = true ∧ due.cc.restartDue = false) ∧
    (near.powered = true ∧ near.cc.activationNear = true ∧ near.cc.restartDue = false) ∧
    Live committing ∧ committing.cc.waiting = true ∧ committing.cc.commitExpiry = some 50000 ∧
    reached committing.now 50000 = true ∧ (running.cc.waiting = false ∧ allEmpty running = true) ∧
    (committing.context .one).state ≠ .empty ∧ t.va.occupied.get .two = some 50000 ∧
    (t.context .two).state = .opened ∧
    ((after .activation { due with clock := { due.clock with now := 49000 + 32768 } }).rr.ring.map fun x =>
      (x.lane, x.revision)) = [(.one, 1)] := by unfold Live; decide +kernel

theorem witness_PersistCompletes :
    Live persisting ∧ persisting.cc.persist = some (50000 - 3277) ∧ 3277 ≤ (persisting.now - (50000 - 3277)).toNat := by
  unfold Live; decide +kernel

theorem witness_CalibrationStaysConsistent : ClaimInv claimed ∧ CommitInv claimed ∧ step claimed = .next claimed := by
  refine ⟨fun _ => ?_, fun h => absurd h (by decide +kernel), rfl⟩; decide +kernel

/-- A restart requested, waiting behind a persist, and taking effect; the input falling and already low. -/
theorem witness_RestartTakesEffect :
    let high := { running with pins := { running.pins with restartHigh := true } }
    let due := { running with cc := { running.cc with restartDue := true } }
    TakingAny .p3 running ∧ TakingAny .p3 persisting ∧ running.cc.persist = none ∧ persisting.cc.persist.isSome = true ∧
    (Live high ∧ high.pins.restartHigh = true) ∧ (running.pins.restartEdge = false ∧ running.pins.restartHigh = false) ∧
    due.powered = true ∧ due.cc.activationDue = false ∧ due.cc.restartDue = true :=
  ⟨running_takingAny, persisting_takingAny, by decide +kernel, by decide +kernel, by unfold Live; decide +kernel,
    by decide +kernel, by decide +kernel, by decide +kernel, by decide +kernel⟩

/-- A running device, the same with lane 2 CLOSED, and one with a test on lane 2. -/
def laneClosed : State := after (.laneMode .p3 0 2 1) running

theorem laneInv_running : LaneInv running := by
  refine ⟨fun l => by cases l <;> decide +kernel, fun ⟨l, r, h⟩ => by cases l <;> cases r <;> cases h <;> decide +kernel,
    ⟨fun l r => by cases l <;> cases r <;> decide +kernel, fun l hl => ?_⟩, fun l => by cases l <;> decide +kernel⟩
  cases l <;> exact absurd hl (by decide +kernel)

theorem laneInv_closed : LaneInv laneClosed := by
  refine ⟨fun l => by cases l <;> decide +kernel, fun ⟨l, r, h⟩ => by cases l <;> cases r <;> cases h <;> decide +kernel,
    ⟨fun l r => by cases l <;> cases r <;> decide +kernel, fun l _ => ?_⟩, fun l => by cases l <;> decide +kernel⟩
  cases l <;>
    exact ⟨fun r => by cases r <;> decide +kernel, by decide +kernel, by decide +kernel, by decide +kernel, by decide +kernel⟩

theorem laneInv_testing : LaneInv (testing 2000000) := by
  refine ⟨fun l => by cases l <;> decide +kernel, fun ⟨l, r, h⟩ => by cases l <;> cases r <;> cases h <;> decide +kernel,
    ⟨fun l r => by cases l <;> cases r <;> decide +kernel, fun l hl => ?_⟩, fun l => by cases l <;> decide +kernel⟩
  cases l <;> exact absurd hl (by decide +kernel)

theorem witness_LaneModeActs :
    TakingAny .p3 running ∧ LaneInv running ∧ running.mode .two = .opened ∧ LaneInv laneClosed ∧
    laneClosed.mode .two = .closed ∧ LaneInv (testing 2000000) ∧ (testing 2000000).mode .two = .test ∧
    (testing 2000000).ltg.test = some test97 ∧ laneNumber .two = (2#8).toNat :=
  ⟨running_takingAny, laneInv_running, by decide +kernel, laneInv_closed, by decide +kernel, laneInv_testing,
    by decide +kernel, by decide +kernel, by decide +kernel⟩

/-- A lane ready with pattern 0; a lane CLOSED; a test running; a pattern disabled. -/
theorem witness_LaneTestStarts :
    (TakingAny .p3 running ∧ laneNumber .one = (1#8).toNat ∧ laneNumber .one = (0#8).toNat + 1 ∧
      (running.set.patterns.get .one).enabled = true ∧ running.ltg.test = none ∧ laneReady running .one = true ∧
      running.set.site.vMin ≤ running.set.site.vMax ∧ (running.set.patterns.get .one).axleCount ≤ 8) ∧
    laneReady laneClosed .two = false ∧ (testing 0).ltg.test.isSome = true ∧
    (running.set.patterns.get .two).enabled = false := by unfold TakingAny Taking Live; decide +kernel

/-- The test of 9.7 before its start, at its start, and at the end of its last pulse. -/
theorem witness_InjectionFollowsSchedule :
    (testing 2008191).ltg.test = some test97 ∧ Live (testing 2008191) ∧
    timeDiff (testing 2008191).now test97.startTime < 0 ∧ 0 ≤ timeDiff (testing 2008192).now test97.startTime ∧
    test97.rowAStarts.getLast? = some 2012124 ∧
    timeDiff (testing 2014745).now (2012124 + BitVec.ofNat 32 (test97.rowBOffset + test97.pulseLength)) < 0 ∧
    0 ≤ timeDiff (testing 2014746).now (2012124 + BitVec.ofNat 32 (test97.rowBOffset + test97.pulseLength)) := by
  unfold Live; decide +kernel

theorem witness_TestCompletes :
    0 < test97.axleCount * test97.amplitude * test97.pulseLength ∧ Live (testing 2031130) ∧
    (testing 2031130).ltg.test = some test97 ∧ reached (testing 2031130).now test97.expiry = true ∧
    test97.vehicleOpened = false := by unfold Live; decide +kernel

theorem witness_TestCompletes_commit : CommitInv (testing 2031130) := by intro h; exact absurd h (by decide +kernel)

theorem witness_LanesStayConsistent :
    LaneInv running ∧ CapacityInv running ∧ step running = .next running := by
  refine ⟨laneInv_running, ⟨fun l r => ?_, fun l => ?_, fun l => ?_, fun p => ?_⟩, rfl⟩
  · cases l <;> cases r <;> decide +kernel
  · cases l <;> decide +kernel
  · cases l <;> decide +kernel
  · cases p <;> decide +kernel

theorem witness_FrameIsReceivedAsSent :
    (⟨0x22, 0, List.replicate 240 0⟩ : Frame).payload.length ≤ 240 ∧ (running.port .p1).rx = .hunting := by
  decide +kernel

/-- A receiver of port P1 in a state, its last character's end noted at a time. -/
def receiving (r : Receiver) (t : Time) : State := onPort .p1 fun x => { x with rx := r, rxLast := t }

/-- Every receiver of that port meets the hypotheses, but one that holds a complete frame. -/
theorem witness_ReceiverEvents (r : Receiver) (t : Time) (h : ∀ bytes, r ≠ .complete bytes) :
    Live (receiving r t) ∧ ((receiving r t).port .p1).role ≠ .disabled ∧ frameDue (receiving r t) .p1 = false ∧
    (receiving r t).clock.started = true ∧ ((receiving r t).port .p1).rx = r := by
  cases r
  case complete bytes => exact absurd rfl (h bytes)
  all_goals exact ⟨by unfold Live; exact ⟨rfl, rfl, rfl⟩, (by decide +kernel : (running.port .p1).role ≠ .disabled), rfl, rfl, rfl⟩

/-- Gaps of 82 and 83 before a timeout, of 84 and 85 before the end of a character at 115,200 bit/s, and of 100 and
101 before a break; a length byte of 240 and of 241. -/
theorem witness_ReceiverEvents_bounds :
    ([82, 83, 84, 85, 100, 101].map fun g => (running.now - (50000 - BitVec.ofNat 32 g)).toNat) =
      [82, 83, 84, 85, 100, 101] ∧
    82 + (10 * 16384 + (bitRate .b115200 - 1)) / bitRate .b115200 = 84 ∧ (240#8).toNat ≤ 240 ∧ 240 < (241#8).toNat := by
  decide +kernel

/-- A frame complete, good and not, with the transmitter idle, the buffer empty and full, and before the first tick. -/
theorem witness_FramesAreServed :
    let bytes := frameBody noticesFrame ++ crcBytes (frameBody noticesFrame)
    let s := onPort .p1 fun x => { x with rx := .complete bytes }
    let t := onPort .p1 fun x => { x with rx := .complete bytes, tx := .sending [] 50000, buffer := some noticesFrame }
    (Live s ∧ (s.port .p1).role ≠ .disabled ∧ (s.port .p1).rx = .complete bytes ∧ frameChecks bytes = true ∧
      s.clock.started = true ∧ (s.port .p1).tx = .idle) ∧
    frameChecks (bytes.dropLast ++ [0]) = false ∧ State.reset.clock.started = false ∧
    Live t ∧ (t.port .p1).tx = .sending [] 50000 ∧ (t.port .p1).buffer = some noticesFrame ∧
    reached t.now 50000 = true := by unfold Live; decide +kernel

/-- A port DISABLED, one in transmission with its buffer empty and full, a code that names no command, an ENFORCEMENT port,
a payload one byte too long. -/
theorem witness_PortCommandsWaitOrAreRefused :
    let busy := onPort .p1 fun x => { x with tx := .sending [] 50001 }
    Live busy ∧ portFrame (.notices .p1 0x01) = some (.p1, noticesFrame) ∧ (busy.port .p1).tx ≠ .idle ∧
    (busy.port .p1).buffer = none ∧ commandCodes.contains (0x81#8).toNat = false ∧ Taking .p1 running ∧
    (running.port .p1).role ≠ .maintenance ∧ (0x01, 0) ∈ [(0x01, 0), (0x02, 0)] ∧ [(0#8)].length ≠ 0 ∧
    TakingAny .p3 running ∧ dispatch .p3 ⟨0x34, 0, [0]⟩ running = (running, ⟨.badLength, []⟩) := by
  unfold TakingAny Taking Live; decide +kernel

/-- Flags at the bounds of the codes, and FAULT alone pending. -/
theorem witness_NoticeCommands :
    Taking .p1 running ∧ (running.port .p1).flags.getLsbD 0 = true ∧ (31#8).toNat < 32 ∧ 32 ≤ (32#8).toNat ∧
    lineModeCode .pulse = (2#8).toNat ∧ 3 ≤ (3#8).toNat ∧ (1#8).toNat < 2 ∧ 2 ≤ (2#8).toNat := by
  unfold Taking Live; decide +kernel

theorem witness_NoticeLineAndTimers :
    let s (t : Time) : State := onPort .p1 fun x => { x with
      lineMode := .pulse, reminder := true, pulse := some t, reminderExpiry := some t }
    Live (s 50000) ∧ ((s 50000).port .p1).pulse = some 50000 ∧ reached (s 50000).now 50000 = true ∧
    reached (s 50001).now 50001 = false ∧ ((s 50000).port .p1).reminderExpiry = some 50000 ∧
    ((s 50000).port .p1).flags &&& ~~~((s 50000).port .p1).mask ≠ 0 ∧ State.reset.clock.started = false := by
  unfold Live; decide +kernel

theorem witness_StatusCountersClockResume :
    let held := withOne ch6 fun c => { c with state := .held }
    Taking .p1 running ∧ TakingAny .p3 held ∧ channelIndex ch6 = (6#8).toNat ∧ (held.channel ch6).state = .held ∧
    (running.channel ch6).state ≠ .held ∧ 16 ≤ (16#8).toNat := by unfold TakingAny Taking Live; decide +kernel

/-- A device with no test yet done, and one with a test done on lane 2. -/
theorem witness_StatusIsCoded :
    let s := completeTest test97 (fun _ => 65535) (some 1) (testing 2014746)
    running.clock.tick < 16384 ∧ (running.ringPort .p1).alerts.length ≤ 16 ∧ (running.port .p1).pointer.index ≤ 32 ∧
    running.ltg.last = none ∧ s.ltg.last = some ⟨.two, 1, .suspect, ⟨3, 848⟩, some [65535, 65535, 65535, 65535], some 1⟩ ∧
    (statusBytes s .p1).length = 202 ∧ numberAt (statusBytes s .p1) 145 2 = 65535 ∧
    numberAt (statusBytes running .p1) 136 1 = 255 := by decide +kernel

end Sys2Proof.Machine
end

section
/-! SUPPORT. What every step keeps: a predicate that each part of a step keeps, every step keeps. The walk through the
sample tick, the ports and the 53 commands is made here once, for every invariant. -/

namespace Sys2Proof.Machine

/-! ### The parts of a step -/

/-- The parts from which every step is made each keep a predicate: writes to the fields that belong to no block, the port
commands, the events, and what comes at once. A port that is written keeps its role, as every write of the model does. -/
structure KeptByParts (I : State → Prop) : Prop where
  pending : ∀ s q, I s → I { s with pending := q }
  early : ∀ s e, I s → I { s with early := e }
  pins : ∀ s x, I s → I { s with pins := x }
  port : ∀ p x s, x.role = (s.port p).role → I s → I (s.withPort p x)
  command : ∀ p b c s, I s → I (runCommand p b s c).1
  activation : ∀ s, s.cc.activationDue = true ∨ s.cc.activationNear = true → I s → I (activate s)
  restart : ∀ s, s.cc.restartDue = true → I s → I (restartDevice s)
  powerOn : ∀ straps s, I s → I (applyPower straps s)
  powerLoss : ∀ s, I s → I (losePower s)
  tick : ∀ inputs s, I s → I (takeTick inputs s)
  settling : ∀ c s, I s → I (eventSettling c s)
  hitEnd : ∀ c s, I s → I (eventHitEnd c s)
  overrun : ∀ c s, I s → I (eventOverrun c s)
  holdEnd : ∀ c s, I s → I (eventHoldEnd c s)
  second : ∀ s, I s → I (eventSecond s)
  pairing : ∀ l r i s, I s → I (eventPairing l r i s)
  rowA : ∀ l s, I s → I (eventRowA l s)
  occupied : ∀ l s, I s → I (eventOccupied l s)
  released : ∀ l s, I s → I (eventReleased l s)
  closeDelay : ∀ l s, I s → I (eventCloseDelay l s)
  duration : ∀ l s, I s → I (eventDuration l s)
  trigger : ∀ l s, I s → I (eventTrigger l s)
  injection : ∀ s, I s → I (eventInjection s)
  testExpiry : ∀ s, I s → I (eventTestExpiry s)
  claimIdle : ∀ s, I s → I (eventClaimIdle s)
  commitTimeout : ∀ s, I s → I (eventCommitTimeout s)
  persist : ∀ equal s, I s → I (eventPersist equal s)
  persistOverdue : ∀ s, I s → I (eventPersistOverdue s)
  restartInput : ∀ s, I s → I (eventRestartInput s)

/-- An effect where its condition holds keeps what the effect keeps under that condition. -/
theorem whenever_keeps {I : State → Prop} {f : State → State} {s : State} {b : Bool} (hf : b = true → I (f s)) (h : I s) :
    I (whenever b f s) := by
  unfold whenever
  split
  · exact hf ‹_›
  · exact h

@[simp] theorem dropPartial_role (x : Port) : (dropPartial x).role = x.role := by
  unfold dropPartial
  split <;> rfl

@[simp] theorem receiveByte_role (b : Byte) (x : Port) : (receiveByte b x).role = x.role := by
  unfold receiveByte
  split <;> (try unfold assemble; dsimp only) <;> (repeat' split) <;> rfl

namespace KeptByParts

variable {I : State → Prop}

/-! ### What comes at once, and the ports -/

theorem settleUrgent (k : KeptByParts I) {s : State} (h : I s) : I (settleUrgent s) := by
  have activated : I (if s.cc.activationDue then activate s else s) := by
    split
    · exact k.activation s (.inl ‹_›) h
    · exact h
  have restarted : ∀ u, I u → I (if u.cc.restartDue then restartDevice u else u) := by
    intro u hu
    split
    · exact k.restart u ‹_› hu
    · exact hu
  exact restarted _ activated

theorem dispatch (k : KeptByParts I) (p : PortId) (f : Frame) {s : State} (h : I s) : I (dispatch p f s).1 := by
  unfold Machine.dispatch
  split
  · exact h
  · (repeat' split)
    · exact h
    · exact h
    · exact k.command p f.payload _ s h

theorem takeFrame (k : KeptByParts I) (p : PortId) (f : Frame) {s : State} (h : I s) : I (takeFrame p f s) :=
  k.port p _ _ rfl (k.dispatch p f h)

theorem serve (k : KeptByParts I) (p : PortId) (f : Frame) {s : State} (h : I s) : I (serve p f s) := by
  unfold Machine.serve
  dsimp only
  (repeat' split)
  · exact h
  · exact k.early s _ h
  · exact k.takeFrame p f h
  · exact k.port p _ s rfl h
  · exact k.port p _ s rfl h

theorem frameCompletes (k : KeptByParts I) (p : PortId) {s : State} (h : I s) : I (frameCompletes p s) := by
  unfold Machine.frameCompletes
  dsimp only
  split
  · split
    · exact k.serve p _ (k.port p _ s rfl h)
    · exact k.port p _ s rfl h
  all_goals exact h

theorem completeEarlier (k : KeptByParts I) {s : State} (h : I s) : I (completeEarlier s) := by
  unfold Machine.completeEarlier
  split
  · exact h
  · exact List.foldlRecOn _ _ h fun _ hu p _ => k.frameCompletes p hu

theorem gapExpires (k : KeptByParts I) (p : PortId) {s : State} (h : I s) : I (gapExpires p s) :=
  k.port p _ s (dropPartial_role _) h

theorem frameArrives (k : KeptByParts I) (p : PortId) (f : Frame) {s : State} (h : I s) : I (frameArrives p f s) := by
  unfold Machine.frameArrives
  split
  · exact h
  · exact k.serve p f (k.completeEarlier h)

theorem settleReceiver (k : KeptByParts I) (p : PortId) (n : Nat) {s : State} (h : I s) : I (settleReceiver p n s) := by
  have he := k.completeEarlier h
  unfold Machine.settleReceiver
  dsimp only
  (repeat' split)
  · exact k.frameCompletes p he
  · exact k.gapExpires p he
  · exact he

theorem characterEnds (k : KeptByParts I) (p : PortId) (b : Byte) (good : Bool) {s : State} (h : I s) :
    I (characterEnds p b good s) := by
  unfold Machine.characterEnds
  dsimp only
  (repeat' split)
  · exact h
  · exact k.port p _ _ (receiveByte_role _ _) (k.settleReceiver p _ h)
  · exact k.port p _ _ (dropPartial_role _) (k.settleReceiver p _ h)

theorem breakReceived (k : KeptByParts I) (p : PortId) {s : State} (h : I s) : I (breakReceived p s) := by
  unfold Machine.breakReceived
  (repeat' split)
  · exact h
  · exact k.gapExpires p h
  · exact h
  · exact h
  all_goals exact k.port p _ s rfl h

theorem eventFrame (k : KeptByParts I) (p : PortId) {s : State} (h : I s) : I (eventFrame p s) :=
  whenever_keeps (fun _ => k.frameCompletes p h) h

theorem eventGap (k : KeptByParts I) (p : PortId) {s : State} (h : I s) : I (eventGap p s) :=
  whenever_keeps (fun _ => k.gapExpires p h) h

theorem eventGapOverdue (k : KeptByParts I) (p : PortId) {s : State} (h : I s) : I (eventGapOverdue p s) :=
  whenever_keeps (fun _ => k.gapExpires p h) h

theorem responseEnds (k : KeptByParts I) (p : PortId) {s : State} (h : I s) : I (responseEnds p s) := by
  unfold Machine.responseEnds
  dsimp only
  split
  · exact k.takeFrame p _ (k.port p _ s rfl h)
  · exact k.port p _ s rfl h

theorem eventResponse (k : KeptByParts I) (p : PortId) {s : State} (h : I s) : I (eventResponse p s) :=
  whenever_keeps (fun _ => k.responseEnds p h) h

theorem eventPulseEnd (k : KeptByParts I) (p : PortId) {s : State} (h : I s) : I (eventPulseEnd p s) :=
  whenever_keeps (fun _ => k.port p _ s rfl h) h

theorem eventReminder (k : KeptByParts I) (p : PortId) {s : State} (h : I s) : I (eventReminder p s) :=
  whenever_keeps (fun _ => k.port p _ s rfl h) h

/-! ### The sample tick -/

theorem eventActivation (k : KeptByParts I) {s : State} (h : I s) : I (eventActivation s) :=
  whenever_keeps (fun hn => k.activation s (.inr hn) h) h

theorem decideDue (k : KeptByParts I) (l : Lane) (r : Row) (n : Nat) {s : State} (h : I s) : I (decideDue l r n s) := by
  induction n generalizing s with
  | zero => exact h
  | succ n ih =>
    unfold Machine.decideDue
    split
    · exact ih (k.settleUrgent (k.pairing l r _ s h))
    · exact h

theorem channelEvents (k : KeptByParts I) (c : ChannelId) : ∀ e ∈ channelEvents c, ∀ s, I s → I (e s) := by
  simp only [Machine.channelEvents, List.forall_mem_cons]
  exact ⟨k.settling c, k.hitEnd c, k.overrun c, k.holdEnd c, List.forall_mem_nil _⟩

theorem laneEvents (k : KeptByParts I) (l : Lane) : ∀ e ∈ laneEvents l, ∀ s, I s → I (e s) := by
  simp only [Machine.laneEvents, List.forall_mem_cons]
  exact ⟨fun _ => k.decideDue l .a 9, fun _ => k.decideDue l .b 9, k.rowA l, k.occupied l, k.released l, k.closeDelay l,
    k.duration l, k.trigger l, List.forall_mem_nil _⟩

theorem deviceEvents (k : KeptByParts I) : ∀ e ∈ deviceEvents, ∀ s, I s → I (e s) := by
  simp only [Machine.deviceEvents, List.forall_mem_cons]
  exact ⟨k.injection, k.testExpiry, k.claimIdle, k.commitTimeout, k.persistOverdue, k.restartInput, List.forall_mem_nil _⟩

theorem portEvents (k : KeptByParts I) (p : PortId) : ∀ e ∈ portEvents p, ∀ s, I s → I (e s) := by
  simp only [Machine.portEvents, List.forall_mem_cons]
  exact ⟨fun _ => k.eventFrame p, fun _ => k.eventGapOverdue p, fun _ => k.eventResponse p, fun _ => k.eventPulseEnd p,
    fun _ => k.eventReminder p, List.forall_mem_nil _⟩

theorem allEvents (k : KeptByParts I) : ∀ e ∈ allEvents, ∀ s, I s → I (e s) := by
  intro e he
  simp only [Machine.allEvents, List.mem_append, List.mem_flatMap, List.mem_singleton] at he
  obtain ((((⟨c, -, hc⟩ | rfl) | ⟨l, -, hl⟩) | hd) | ⟨p, -, hp⟩) := he
  · exact k.channelEvents c e hc
  · exact k.second
  · exact k.laneEvents l e hl
  · exact k.deviceEvents e hd
  · exact k.portEvents p e hp

theorem settlePass (k : KeptByParts I) {s : State} (h : I s) : I (settlePass s) :=
  List.foldlRecOn _ _ (k.settleUrgent h) fun _ hu e he => k.settleUrgent (k.allEvents e he _ hu)

theorem settleDue (k : KeptByParts I) {s : State} (h : I s) : I (settleDue s) := by
  unfold Machine.settleDue
  split
  · exact k.eventActivation (k.settlePass (k.settlePass h))
  · exact h

theorem serveEarly (k : KeptByParts I) {s : State} (h : I s) : I (serveEarly s) :=
  List.foldlRecOn _ _ (k.early s [] h) fun _ hu f _ => k.settleUrgent (k.serve f.1 f.2 hu)

theorem sampleTick (k : KeptByParts I) (inputs : Inputs) {s : State} (h : I s) : I (sampleTick inputs s) := by
  have ht := k.tick inputs _ (k.settleDue h)
  unfold Machine.sampleTick
  dsimp only
  split
  · exact ht
  · exact k.serveEarly ht

/-! ### The step -/

theorem onLive (k : KeptByParts I) {f : State → State} (hf : ∀ s, I s → I (f s)) {s t : State} (h : I s)
    (e : onLive f s = .next t) : I t := by
  injection e with e
  subst e
  split
  · exact hf _ (k.settleUrgent h)
  · exact h

theorem powered (k : KeptByParts I) {s : State} (h : I s) : I (if s.powered then Machine.settleUrgent s else s) := by
  split
  · exact k.settleUrgent h
  · exact h

/-- Every command keeps what the parts of a step keep. -/
theorem exec (k : KeptByParts I) (c : Instr) {s t : State} (h : I s) (e : exec c s = .next t) : I t := by
  cases c with
  | powerOn straps => injection e with e; subst e; exact k.powerOn straps _ (k.powered h)
  | restartTakesEffect => injection e with e; subst e; exact k.powered h
  | powerLoss => exact k.onLive k.powerLoss h e
  | sampleTick inputs => exact k.onLive (fun _ => k.sampleTick inputs) h e
  | siteSecond => exact k.onLive k.second h e
  | settlingComplete c => exact k.onLive (k.settling c) h e
  | hitEnd c => exact k.onLive (k.hitEnd c) h e
  | maxHitDurationExceeded c => exact k.onLive (k.overrun c) h e
  | holdCountReached c => exact k.onLive (k.holdEnd c) h e
  | pairingDeadline l r i => exact k.onLive (k.pairing l r i) h e
  | rowAExpiry l => exact k.onLive (k.rowA l) h e
  | presenceOccupied l => exact k.onLive (fun s hs => k.occupied l _ (k.pins s _ hs)) h e
  | presenceReleased l => exact k.onLive (fun s hs => k.released l _ (k.pins s _ hs)) h e
  | closeDelayExpiry l => exact k.onLive (k.closeDelay l) h e
  | durationExpiry l => exact k.onLive (k.duration l) h e
  | triggerPulseEnd l => exact k.onLive (k.trigger l) h e
  | injectionPulse => exact k.onLive k.injection h e
  | testExpiry => exact k.onLive k.testExpiry h e
  | claimIdleExpiry => exact k.onLive k.claimIdle h e
  | commitTimeoutExpiry => exact k.onLive k.commitTimeout h e
  | activation => exact k.onLive (fun _ => k.eventActivation) h e
  | persistComplete equal => exact k.onLive (k.persist equal) h e
  | restartInput => exact k.onLive (fun s hs => k.restartInput _ (k.pins s _ hs)) h e
  | lineBreak p => exact k.onLive (fun _ => k.breakReceived p) h e
  | interByteGapTimeout p => exact k.onLive (fun _ => k.eventGap p) h e
  | frameReceived p => exact k.onLive (fun _ => k.eventFrame p) h e
  | responseSent p => exact k.onLive (fun _ => k.eventResponse p) h e
  | noticePulseEnd p => exact k.onLive (fun _ => k.eventPulseEnd p) h e
  | reminderExpiry p => exact k.onLive (fun _ => k.eventReminder p) h e
  | characterReceived p b good => exact k.onLive (fun _ => k.characterEnds p b good) h e
  | unknownCommand p code tag => exact k.onLive (fun _ => k.frameArrives p _) h e
  | status p tag => exact k.onLive (fun _ => k.frameArrives p _) h e
  | counters p tag => exact k.onLive (fun _ => k.frameArrives p _) h e
  | clearCounters p tag => exact k.onLive (fun _ => k.frameArrives p _) h e
  | notices p tag => exact k.onLive (fun _ => k.frameArrives p _) h e
  | ackNotices p tag flags => exact k.onLive (fun _ => k.frameArrives p _) h e
  | setNotice p tag mask mode reminder => exact k.onLive (fun _ => k.frameArrives p _) h e
  | setFilter p tag laneMask classMask format => exact k.onLive (fun _ => k.frameArrives p _) h e
  | setAlerts p tag subscription => exact k.onLive (fun _ => k.frameArrives p _) h e
  | fetch p tag => exact k.onLive (fun _ => k.frameArrives p _) h e
  | readSeq p tag seq firstAxle => exact k.onLive (fun _ => k.frameArrives p _) h e
  | seek p tag target seq => exact k.onLive (fun _ => k.frameArrives p _) h e
  | takeAlert p tag => exact k.onLive (fun _ => k.frameArrives p _) h e
  | tableSelect p tag table index stepMode => exact k.onLive (fun _ => k.frameArrives p _) h e
  | tableRead p tag => exact k.onLive (fun _ => k.frameArrives p _) h e
  | tableWrite p tag entry => exact k.onLive (fun _ => k.frameArrives p _) h e
  | commit p tag => exact k.onLive (fun _ => k.frameArrives p _) h e
  | discard p tag => exact k.onLive (fun _ => k.frameArrives p _) h e
  | laneMode p tag lane mode => exact k.onLive (fun _ => k.frameArrives p _) h e
  | laneTest p tag lane pattern => exact k.onLive (fun _ => k.frameArrives p _) h e
  | channelResume p tag channel => exact k.onLive (fun _ => k.frameArrives p _) h e
  | setClock p tag seconds => exact k.onLive (fun _ => k.frameArrives p _) h e
  | restart p tag => exact k.onLive (fun _ => k.frameArrives p _) h e

/-- Every step keeps what its parts keep. -/
theorem step (k : KeptByParts I) {s t : State} (h : I s) (e : step s = .next t) : I t := by
  unfold Machine.step at e
  split at e
  · injection e with e
    exact e ▸ h
  · exact k.exec _ (k.pending s _ h) e

end KeptByParts

end Sys2Proof.Machine
end

section
/-! The clocks (R1, R2): which parts of a step touch them, and what every step keeps of them (O7). -/

namespace Sys2Proof.Machine

/-! ### What the commands leave of the clock -/

/-- A port command leaves the clock as it is but for the seconds count, which SET_CLOCK replaces (R179). -/
theorem runCommand_clock (p : PortId) (b : List Byte) (s : State) (c : CommandId) :
    ∃ x, (runCommand p b s c).1.clock = { s.clock with seconds := x } := by
  cases c with
  | setClock | status | counters | clearCounters | notices => exact ⟨_, rfl⟩
  | laneMode | restart | discard | channelResume =>
    refine ⟨s.clock.seconds, ?_⟩
    simp only [runCommand, doLaneMode, doRestart, doDiscard, doChannelResume, refuse]
    (repeat' split) <;> simp
  | fetch | takeAlert | tableRead | tableWrite | ackNotices | setNotice | setFilter | setAlerts | readSeq | seek | tableSelect
    | commit | laneTest =>
    refine ⟨s.clock.seconds, ?_⟩
    simp only [runCommand, doFetch, doTakeAlert, doTableRead, doTableWrite, doAckNotices, doSetNotice, doSetFilter, doSetAlerts,
      doReadSeq, doSeek, doTableSelect, doCommit, doLaneTest, refuse]
    (repeat' split) <;> rfl

/-- A frame that is taken leaves the clock as it is but for the seconds count. -/
theorem dispatch_clock (p : PortId) (f : Frame) (s : State) :
    ∃ x, (dispatch p f s).1.clock = { s.clock with seconds := x } := by
  unfold dispatch
  split
  · exact ⟨_, rfl⟩
  · (repeat' split)
    · exact ⟨_, rfl⟩
    · exact ⟨_, rfl⟩
    · exact runCommand_clock ..

/-- The first sample tick stays taken while a frame is served. -/
theorem serve_started (p : PortId) (f : Frame) (s : State) : (serve p f s).clock.started = s.clock.started := by
  unfold serve
  dsimp only
  (repeat' split)
  case h_1 =>
    obtain ⟨x, hx⟩ := dispatch_clock p f s
    simp [takeFrame, transmit, hx]
  all_goals rfl

/-! ### The tick within the second -/

@[simp] theorem takeTick_clock (inputs : Inputs) (s : State) : (takeTick inputs s).clock = s.clock.advance := rfl

/-- Both clocks advance together, the tick within the second wrapping with its modulus (R2). -/
theorem advance_tick {c : Clock} (h : c.tick = c.now.toNat % 16384) : c.advance.tick = c.advance.now.toNat % 16384 := by
  unfold Clock.advance
  have := c.now.isLt
  split
  · exact h
  · split <;> simp only [BitVec.toNat_add, show (1 : Time).toNat = 1 from rfl] <;> omega

theorem ClockInv.of_clock {s t : State} (h : ClockInv s) (hn : t.clock.now = s.clock.now) (ht : t.clock.tick = s.clock.tick) :
    ClockInv t := by
  rw [ClockInv, hn, ht]
  exact h

theorem clockInv_keptByParts : KeptByParts ClockInv where
  pending _ _ h := h
  early _ _ h := h
  pins _ _ h := h
  port _ _ _ _ h := h
  command p b c s h := by
    obtain ⟨x, hx⟩ := runCommand_clock p b s c
    exact h.of_clock (by rw [hx]) (by rw [hx])
  activation s _ h := h.of_clock (by simp) (by simp)
  restart s _ h := h.of_clock (by simp) (by simp)
  powerOn _ _ _ := rfl
  powerLoss _ h := h
  tick _ _ h := advance_tick h
  settling _ _ h := whenever_keeps (fun _ => h) h
  hitEnd _ _ h := whenever_keeps (fun _ => h.of_clock (by simp) (by simp)) h
  overrun _ _ h := whenever_keeps (fun _ => h.of_clock (by simp) (by simp)) h
  holdEnd _ _ h := whenever_keeps (fun _ => h) h
  second s h := whenever_keeps (fun _ => by
    unfold secondPasses
    dsimp only
    split
    · exact h.of_clock (by simp) (by simp)
    · exact h) h
  pairing l r i s h := by
    unfold eventPairing
    split
    · exact h.of_clock (by simp) (by simp)
    · exact h
  rowA _ _ h := whenever_keeps (fun _ => h) h
  occupied _ _ h := whenever_keeps (fun _ => h.of_clock (by simp) (by simp)) h
  released _ _ h := whenever_keeps (fun _ => h.of_clock (by simp) (by simp)) h
  closeDelay _ _ h := whenever_keeps (fun _ => h.of_clock (by simp) (by simp)) h
  duration _ _ h := whenever_keeps (fun _ => h.of_clock (by simp) (by simp)) h
  trigger _ _ h := whenever_keeps (fun _ => h) h
  injection s h := by
    unfold eventInjection
    split <;> exact h
  testExpiry s h := by
    unfold eventTestExpiry
    split
    · exact h.of_clock (by simp) (by simp)
    · exact h
  claimIdle _ h := whenever_keeps (fun _ => h.of_clock (by simp) (by simp)) h
  commitTimeout _ h := whenever_keeps (fun _ => h) h
  persist _ _ h := whenever_keeps (fun _ => h.of_clock (by simp) (by simp)) h
  persistOverdue _ h := whenever_keeps (fun _ => h.of_clock (by simp) (by simp)) h
  restartInput _ h := whenever_keeps (fun _ => h.of_clock (by simp) (by simp)) h

/-- Settles O7: only the sample tick moves the two clocks, and it moves them together. -/
theorem clockStaysAligned : Obligations.ClockStaysAligned := fun _ _ h e => clockInv_keptByParts.step h e

end Sys2Proof.Machine
end

section
/-! The lanes (R3, R36, R75, R93, R113, R123, R158, R160): their invariants in one structure, kept by each operation in turn
and so by every step (O52). -/

namespace Sys2Proof.Machine

/-! ### Many channels at once -/

/-- Every channel replaced. -/
def State.withChannels (s : State) (f : ChannelId → Channel) : State :=
  { s with sfe := { s.sfe with channels := Quad.ofChan f } }

@[simp] theorem State.channel_withChannels (s : State) (f : ChannelId → Channel) (c : ChannelId) :
    (s.withChannels f).channel c = f c := Quad.chan_ofChan ..

theorem Quad.ext_chan {α : Type} {q r : PerChannel α} (h : ∀ c, q.chan c = r.chan c) : q = r := by
  refine Quad.ext_get fun l => ?_
  have ar := h ⟨l, .a, .right⟩
  have al := h ⟨l, .a, .left⟩
  have br := h ⟨l, .b, .right⟩
  have bl := h ⟨l, .b, .left⟩
  rcases hq : q.get l with ⟨⟨qar, qal⟩, ⟨qbr, qbl⟩⟩
  rcases hr : r.get l with ⟨⟨rar, ral⟩, ⟨rbr, rbl⟩⟩
  simp_all [Quad.chan, Rows.get, Halves.get]

@[simp] theorem State.withChannels_withChannels (s : State) (f g : ChannelId → Channel) :
    (s.withChannels f).withChannels g = s.withChannels g := rfl

theorem State.withChannel_eq_withChannels (s : State) (id : ChannelId) (x : Channel) :
    s.withChannel id x = s.withChannels fun c => if c = id then x else s.channel c := by
  have hc : s.sfe.channels.setChan id x = Quad.ofChan fun c => if c = id then x else s.channel c :=
    Quad.ext_chan fun c => by
      rw [Quad.chan_setChan, Quad.chan_ofChan]
      rfl
  rw [State.withChannel, hc]
  rfl

/-- A change of each of a lane's channels in turn is one change of all of them. -/
theorem foldl_channels (g : ChannelId → Channel → Channel) (l : Lane) (s : State) :
    l.channels.foldl (fun s c => s.withChannel c (g c (s.channel c))) s =
      s.withChannels fun c => if c.lane = l then g c (s.channel c) else s.channel c := by
  simp only [Ix4.channels, List.foldl_cons, List.foldl_nil, State.withChannel_eq_withChannels,
    State.withChannels_withChannels, State.channel_withChannels]
  congr 1
  funext ⟨l', r, x⟩
  by_cases hl : l' = l
  · subst hl
    cases r <;> cases x <;> simp
  · simp [hl]

theorem forLaneChannels_eq (f : Channel → Channel) (l : Lane) (s : State) :
    forLaneChannels f l s = s.withChannels fun c => if c.lane = l then f (s.channel c) else s.channel c :=
  foldl_channels (fun _ => f) l s

/-! ### Reading occupancy and triggers -/

theorem State.isOccupied_withOccupied (s : State) (l l' : Lane) (x : Option Time) :
    (s.withOccupied l x).isOccupied l' = if l' = l then x.isSome else s.isOccupied l' := by
  simp only [State.isOccupied, State.withOccupied, Quad.get_set]
  split <;> rfl

theorem triggers_withTrigger (s : State) (l l' : Lane) (x : Option Time) :
    (s.withTrigger l x).cle.triggers.get l' = if l' = l then x else s.cle.triggers.get l' := Quad.get_set ..

/-! ### The invariants in one structure -/

/-- A lane with no traffic: pools and queue empty, context EMPTY, not occupied, trigger IDLE (R158). -/
structure LaneQuiet (s : State) (l : Lane) : Prop where
  pools : ∀ r, s.pool l r = []
  queue : s.queue l = []
  context : (s.context l).state = .empty
  unoccupied : s.isOccupied l = false
  trigger : s.cle.triggers.get l = none

/-- Every port's alert queue keeps to its capacity (R123). -/
def AlertsFit (s : State) : Prop := ∀ p, (s.ringPort p).alerts.length ≤ 16

theorem AlertsFit.of_rr {s t : State} (h : AlertsFit s) (rr : t.rr = s.rr := by simp) : AlertsFit t := by
  intro p
  rw [State.ringPort, rr]
  exact h p

theorem AlertsFit.raiseAt {s : State} (h : AlertsFit s) (p : PortId) (f : NoticeSet) : AlertsFit (raiseAt p f s) :=
  h.of_rr

/-- `LaneInv` and `CapacityInv`, part by part. -/
structure LanesConsistent (s : State) : Prop where
  test : TestInv s
  off : OffInv s
  keyed : PoolsKeyed s
  quiet : ∀ l, s.mode l = .closed → LaneQuiet s l
  cleared : EmptyInv s
  pools : ∀ l r, (s.pool l r).length ≤ 8
  queues : ∀ l, (s.queue l).length ≤ 16
  axles : ∀ l, (s.context l).axles.length ≤ 16
  alerts : AlertsFit s

theorem lanesConsistent_iff (s : State) : LanesConsistent s ↔ LaneInv s ∧ CapacityInv s := by
  constructor
  · intro h
    have hq : ClosedInv s := ⟨h.keyed, fun l hl =>
      have q := h.quiet l hl
      ⟨q.pools, q.queue, q.context, q.unoccupied, q.trigger⟩⟩
    exact ⟨⟨h.test, h.off, hq, h.cleared⟩, h.pools, h.queues, h.axles, h.alerts⟩
  · rintro ⟨⟨test, off, ⟨keyed, quiet⟩, cleared⟩, pools, queues, axles, alerts⟩
    refine ⟨test, off, keyed, fun l hl => ?_, cleared, pools, queues, axles, alerts⟩
    obtain ⟨hp, hq, hc, ho, ht⟩ := quiet l hl
    exact ⟨hp, hq, hc, ho, ht⟩

/-- Consistent lanes, one of which is not CLOSED: what traffic on that lane needs and keeps. -/
structure OpenLane (l : Lane) (s : State) : Prop extends LanesConsistent s where
  notClosed : s.mode l ≠ .closed

namespace LanesConsistent

variable {s t : State}

/-! ### The updates of the state -/

/-- What holds the lanes is as it was, and the alert queues keep within their capacity. -/
theorem of_parts (h : LanesConsistent s) (alerts : AlertsFit t)
    (channels : t.sfe.channels = s.sfe.channels := by simp) (pools : t.xf.pools = s.xf.pools := by simp)
    (queues : t.xf.queues = s.xf.queues := by simp) (contexts : t.va.contexts = s.va.contexts := by simp)
    (occupied : t.va.occupied = s.va.occupied := by simp) (triggers : t.cle.triggers = s.cle.triggers := by simp)
    (ltg : t.ltg = s.ltg := by simp) (active : t.cc.active = s.cc.active := by simp) : LanesConsistent t := by
  have channel c : t.channel c = s.channel c := congrArg (·.chan c) channels
  have pool l r : t.pool l r = s.pool l r := congrArg (·.row l r) pools
  have queue l : t.queue l = s.queue l := congrArg (·.get l) queues
  have context l : t.context l = s.context l := congrArg (·.get l) contexts
  have occ l : t.isOccupied l = s.isOccupied l := congrArg (fun q => (q.get l).isSome) occupied
  have mode l : t.mode l = s.mode l := congrArg (·.modes.get l) ltg
  have lane : t.testLane = s.testLane := congrArg (·.test.map (·.lane)) ltg
  have set : t.set = s.set := active
  refine ⟨fun l => ?_, fun c => ?_, fun l r => ?_, fun l hl => ?_, fun l => ?_, fun l r => ?_, fun l => ?_, fun l => ?_,
    alerts⟩
  · rw [mode, lane]
    exact h.test l
  · rw [channel, mode, set]
    exact h.off c
  · rw [pool]
    exact h.keyed l r
  · rw [mode] at hl
    have q := h.quiet l hl
    exact ⟨fun r => (pool l r).trans (q.pools r), (queue l).trans q.queue, by rw [context]; exact q.context,
      (occ l).trans q.unoccupied, by rw [triggers]; exact q.trigger⟩
  · rw [context]
    exact h.cleared l
  · rw [pool]
    exact h.pools l r
  · rw [queue]
    exact h.queues l
  · rw [context]
    exact h.axles l

theorem withPort (h : LanesConsistent s) (p : PortId) (x : Port) : LanesConsistent (s.withPort p x) :=
  h.of_parts h.alerts

theorem raiseAll (h : LanesConsistent s) (f : NoticeSet) : LanesConsistent (raiseAll f s) :=
  h.of_parts h.alerts.of_rr

/-- A channel that is OFF stays so, and no other becomes so (R3). -/
theorem withChannels (h : LanesConsistent s) (f : ChannelId → Channel)
    (hf : ∀ c, (f c).state = .off ↔ (s.channel c).state = .off) : LanesConsistent (s.withChannels f) :=
  { h with
    off := fun c => by
      rw [State.channel_withChannels, hf]
      exact h.off c
    quiet := fun l hl => { h.quiet l hl with } }

theorem withChannel (h : LanesConsistent s) (id : ChannelId) (x : Channel)
    (hx : x.state = .off ↔ (s.channel id).state = .off) : LanesConsistent (s.withChannel id x) :=
  { h with
    off := fun c => by
      have hc := h.off c
      rw [State.channel_withChannel]
      split
      · subst c
        rw [hx]
        exact hc
      · exact hc
    quiet := fun l hl => { h.quiet l hl with } }

theorem withPool (h : LanesConsistent s) {l : Lane} {r : Row} {x : List PoolHit}
    (keyed : ∀ k ∈ x, k.channel.lane = l ∧ k.channel.row = r) (fits : x.length ≤ 8)
    (quiet : s.mode l = .closed → x = []) : LanesConsistent (s.withPool l r x) :=
  { h with
    keyed := fun l' r' k hk => by
      rw [State.pool_withPool] at hk
      split at hk
      · obtain ⟨rfl, rfl⟩ := ‹l' = l ∧ r' = r›
        exact keyed k hk
      · exact h.keyed l' r' k hk
    pools := fun l' r' => by
      rw [State.pool_withPool]
      split
      · exact fits
      · exact h.pools l' r'
    quiet := fun l' hl => { h.quiet l' hl with
      pools := fun r' => by
        rw [State.pool_withPool]
        split
        · obtain ⟨rfl, rfl⟩ := ‹l' = l ∧ r' = r›
          exact quiet hl
        · exact (h.quiet l' hl).pools r' } }

theorem withQueue (h : LanesConsistent s) {l : Lane} {x : List Crossing} (fits : x.length ≤ 16)
    (quiet : s.mode l = .closed → x = []) : LanesConsistent (s.withQueue l x) :=
  { h with
    queues := fun l' => by
      rw [State.queue_withQueue]
      split
      · exact fits
      · exact h.queues l'
    quiet := fun l' hl => { h.quiet l' hl with
      queue := by
        rw [State.queue_withQueue]
        split
        · exact quiet (‹l' = l› ▸ hl)
        · exact (h.quiet l' hl).queue } }

theorem withContext (h : LanesConsistent s) {l : Lane} {x : Context} (cleared : x.state = .empty → x = emptyContext)
    (fits : x.axles.length ≤ 16) (quiet : s.mode l = .closed → x.state = .empty) :
    LanesConsistent (s.withContext l x) :=
  { h with
    cleared := fun l' => by
      rw [State.context_withContext]
      split
      · exact cleared
      · exact h.cleared l'
    axles := fun l' => by
      rw [State.context_withContext]
      split
      · exact fits
      · exact h.axles l'
    quiet := fun l' hl => { h.quiet l' hl with
      context := by
        rw [State.context_withContext]
        split
        · exact quiet (‹l' = l› ▸ hl)
        · exact (h.quiet l' hl).context } }

theorem emptied (h : LanesConsistent s) (l : Lane) : LanesConsistent (s.withContext l emptyContext) :=
  h.withContext (fun _ => rfl) (Nat.zero_le _) (fun _ => rfl)

theorem withOccupied (h : LanesConsistent s) {l : Lane} {x : Option Time} (quiet : s.mode l = .closed → x = none) :
    LanesConsistent (s.withOccupied l x) :=
  { h with
    quiet := fun l' hl => { h.quiet l' hl with
      unoccupied := by
        rw [State.isOccupied_withOccupied]
        split
        · rw [quiet (‹l' = l› ▸ hl)]
          rfl
        · exact (h.quiet l' hl).unoccupied } }

theorem withTrigger (h : LanesConsistent s) {l : Lane} {x : Option Time} (quiet : s.mode l = .closed → x = none) :
    LanesConsistent (s.withTrigger l x) :=
  { h with
    quiet := fun l' hl => { h.quiet l' hl with
      trigger := by
        rw [triggers_withTrigger]
        split
        · exact quiet (‹l' = l› ▸ hl)
        · exact (h.quiet l' hl).trigger } }

end LanesConsistent
end Sys2Proof.Machine
end

section
/-! The lanes' invariants through tests, the ring and vehicles (R80, R86, R110, R123, R165). -/

namespace Sys2Proof.Machine

/-! ### Tests -/

theorem discardHit_off (c : Channel) : (discardHit c).state = .off ↔ c.state = .off := by
  unfold discardHit
  split <;> simp_all [Channel.toIdle]

theorem setHealth_eq (ratio : ChannelId → Nat) (l : Lane) (s : State) :
    setHealth ratio l s = s.withChannels fun c => if c.lane = l then
      { s.channel c with health := healthOf (ratio c), ratio := some (ratio c) } else s.channel c :=
  foldl_channels (fun c x => { x with health := healthOf (ratio c), ratio := some (ratio c) }) l s

@[simp] theorem mode_raiseAll (f : NoticeSet) (s : State) (l : Lane) : (raiseAll f s).mode l = s.mode l := by
  simp [State.mode]

theorem mode_completeTest (t : TestContext) (ratio : ChannelId → Nat) (record : Option Seq) (s : State) (l : Lane) :
    (completeTest t ratio record s).mode l = if l = t.lane then .opened else s.mode l := by
  unfold completeTest
  dsimp only
  split <;> rw [mode_raiseAll, State.mode_withMode, State.mode_withResult] <;> congr 1 <;> split <;> simp [State.mode]

theorem mode_abortTest (s : State) (l : Lane) :
    (abortTest s).mode l = if s.testLane = some l then .opened else s.mode l := by
  unfold abortTest
  cases ht : s.ltg.test with
  | none => simp [State.testLane, ht]
  | some t =>
    rw [mode_raiseAll, State.mode_withMode, State.mode_withResult]
    simp only [State.testLane, ht, Option.map_some, Option.some.injEq]
    by_cases hl : l = t.lane
    · simp [hl]
    · rw [if_neg hl, if_neg (Ne.symm hl)]
      simp [State.mode]

namespace LanesConsistent

variable {s : State}

/-- The lane modes and the test replaced together, the CLOSED lanes the same (R160, R168). -/
theorem withLtg (h : LanesConsistent s) {x : Ltg} (test : TestInv { s with ltg := x })
    (closed : ∀ l, x.modes.get l = .closed ↔ s.mode l = .closed) : LanesConsistent { s with ltg := x } :=
  { h with
    test := test
    off := fun c => (h.off c).trans (or_congr (closed c.lane).symm Iff.rfl)
    quiet := fun l hl => { h.quiet l ((closed l).mp hl) with } }

/-- The test context cleared, and its lane OPEN (R165, R167). -/
theorem endTest (h : LanesConsistent s) {t : TestContext} (ht : s.ltg.test = some t) (r : TestResult) :
    LanesConsistent ((s.withResult r).withMode t.lane .opened) := by
  have lane : s.testLane = some t.lane := by rw [State.testLane, ht]; rfl
  have mode : s.mode t.lane = .test := (h.test t.lane).mpr lane
  refine h.withLtg (x := ⟨s.ltg.modes.set t.lane .opened, none, some r⟩) (fun l => ?_) fun l => ?_
  · show (s.ltg.modes.set t.lane .opened).get l = .test ↔ none = some l
    have other := h.test l
    rw [lane, State.mode] at other
    rw [Quad.get_set]
    split
    · exact ⟨nofun, nofun⟩
    · exact ⟨fun hl => absurd (Option.some.inj (other.mp hl)).symm ‹_›, nofun⟩
  · show (s.ltg.modes.set t.lane .opened).get l = .closed ↔ s.mode l = .closed
    rw [Quad.get_set]
    split
    · simp_all
    · rfl

theorem setHealth (h : LanesConsistent s) (ratio : ChannelId → Nat) (l : Lane) :
    LanesConsistent (setHealth ratio l s) := by
  rw [setHealth_eq]
  refine h.withChannels _ fun c => ?_
  split <;> rfl

theorem discardHits (h : LanesConsistent s) (l : Lane) : LanesConsistent (forLaneChannels discardHit l s) := by
  rw [forLaneChannels_eq]
  refine h.withChannels _ fun c => ?_
  split
  · exact discardHit_off _
  · rfl

theorem completeTest (h : LanesConsistent s) {t : TestContext} (ht : s.ltg.test = some t) (ratio : ChannelId → Nat)
    (record : Option Seq) : LanesConsistent (completeTest t ratio record s) := by
  have hs := h.setHealth ratio t.lane
  unfold Machine.completeTest
  dsimp only
  split <;> split <;> refine LanesConsistent.raiseAll ?_ _
  · exact hs.endTest (by simpa using ht) _
  · exact (hs.discardHits _).endTest (by simpa using ht) _
  · exact hs.endTest (by simpa using ht) _
  · exact (hs.discardHits _).endTest (by simpa using ht) _

theorem emptyCrossings (h : LanesConsistent s) (l : Lane) : LanesConsistent (emptyCrossings l s) :=
  ((h.withPool (fun _ hk => absurd hk List.not_mem_nil) (Nat.zero_le _) fun _ => rfl).withPool
    (fun _ hk => absurd hk List.not_mem_nil) (Nat.zero_le _) fun _ => rfl).withQueue (Nat.zero_le _) fun _ => rfl

theorem abortTest (h : LanesConsistent s) : LanesConsistent (abortTest s) := by
  unfold Machine.abortTest
  split
  · exact h
  · refine LanesConsistent.raiseAll ?_ _
    exact (((h.discardHits _).emptyCrossings _).emptied _).endTest (by simpa) _

theorem abortTestOn (h : LanesConsistent s) (l : Lane) : LanesConsistent (abortTestOn l s) := by
  unfold Machine.abortTestOn
  split
  · exact h.abortTest
  · exact h

end LanesConsistent

namespace OpenLane

variable {s : State} {l : Lane}

theorem finishTest (h : OpenLane l s) (l' : Lane) (axles : List Axle) (seq : Seq) : OpenLane l (finishTest l' axles seq s) := by
  unfold Machine.finishTest
  split
  · split
    · refine ⟨h.toLanesConsistent.completeTest ‹_› _ _, ?_⟩
      rw [mode_completeTest]
      split
      · nofun
      · exact h.notClosed
    · exact h
  · exact h

theorem abortTestOn (h : OpenLane l s) (l' : Lane) : OpenLane l (abortTestOn l' s) := by
  refine ⟨h.toLanesConsistent.abortTestOn l', ?_⟩
  unfold Machine.abortTestOn
  split
  · rw [mode_abortTest]
    split
    · nofun
    · exact h.notClosed
  · exact h.notClosed

end OpenLane

/-! ### The ring -/

namespace AlertsFit

variable {s : State}

theorem withRingPort (h : AlertsFit s) (p : PortId) {x : RingPort} (hx : x.alerts.length ≤ 16) :
    AlertsFit (s.withRingPort p x) := by
  intro q
  rw [State.ringPort_withRingPort]
  split
  · exact hx
  · exact h q

theorem evictCursor (h : AlertsFit s) (o : Seq) (p : PortId) : AlertsFit (evictCursor o p s) := by
  unfold Machine.evictCursor
  split
  · exact AlertsFit.raiseAt (h.withRingPort p (by exact h p)) _ _
  · exact h

theorem evictIfFull (h : AlertsFit s) : AlertsFit (evictIfFull s) := by
  unfold Machine.evictIfFull
  split
  · have tail : AlertsFit { s with rr := { s.rr with ring := s.rr.ring.tail } } := h
    exact ((tail.evictCursor _ .p1).evictCursor _ .p2).evictCursor _ .p3
  · exact h

/-- A full alert queue drops its head for the new entry (R123). -/
theorem queueAlert (h : AlertsFit s) (e : AlertEntry) (p : PortId) : AlertsFit (queueAlert e p s) := by
  have fits := h p
  unfold Machine.queueAlert
  dsimp only
  split
  · refine AlertsFit.raiseAt (AlertsFit.raiseAt (h.withRingPort p ?_) _ _) _ _
    simp only [List.length_append, List.length_tail, List.length_singleton]
    omega
  · refine AlertsFit.raiseAt (h.withRingPort p ?_) _ _
    simp only [List.length_append, List.length_singleton]
    omega

theorem offerRecord (h : AlertsFit s) (x : Record) (p : PortId) : AlertsFit (offerRecord x p s) := by
  unfold Machine.offerRecord
  dsimp only
  (repeat' split)
  · exact h
  · exact AlertsFit.queueAlert (AlertsFit.of_rr h) _ p
  · exact AlertsFit.of_rr h
  · exact h.queueAlert _ p
  · exact h

theorem commitRecord (h : AlertsFit s) (x : Record) : AlertsFit (commitRecord x s) := by
  unfold Machine.commitRecord
  dsimp only
  refine AlertsFit.offerRecord (AlertsFit.offerRecord (AlertsFit.offerRecord ?_ _ .p1) _ .p2) _ .p3
  exact h.evictIfFull

end AlertsFit

/-! ### Vehicles -/

/-- A lane that holds a vehicle is not CLOSED (R158). -/
theorem LanesConsistent.holding {s : State} (h : LanesConsistent s) {l : Lane} (holds : (s.context l).state ≠ .empty) :
    OpenLane l s := ⟨h, fun hc => holds (h.quiet l hc).context⟩

/-- The vehicle-opened mark leaves the lanes as they were (R163). -/
theorem LanesConsistent.markVehicleOpened {s : State} (h : LanesConsistent s) (l : Lane) :
    LanesConsistent (markVehicleOpened l s) := by
  unfold Machine.markVehicleOpened
  split
  · split
    · refine h.withLtg (fun l' => ?_) fun _ => Iff.rfl
      have := h.test l'
      simpa [State.testLane, State.mode, *] using this
    · exact h
  · exact h

@[simp] theorem markVehicleOpened_modes (l : Lane) (s : State) : (markVehicleOpened l s).ltg.modes = s.ltg.modes := by
  unfold markVehicleOpened
  (repeat' split) <;> rfl

namespace OpenLane

variable {s : State} {l : Lane}

theorem markVehicleOpened (h : OpenLane l s) (l' : Lane) : OpenLane l (markVehicleOpened l' s) :=
  ⟨h.toLanesConsistent.markVehicleOpened l', by
    rw [State.mode, markVehicleOpened_modes]
    exact h.notClosed⟩

theorem commitRecord (h : OpenLane l s) (x : Record) : OpenLane l (commitRecord x s) :=
  ⟨h.of_parts (h.alerts.commitRecord x), by
    rw [State.mode, commitRecord_ltg]
    exact h.notClosed⟩

theorem startTrigger (h : OpenLane l s) : OpenLane l (startTrigger l s) :=
  ⟨(h.withTrigger fun hc => absurd hc h.notClosed).of_parts h.alerts (triggers := rfl), h.notClosed⟩

theorem withContext (h : OpenLane l s) {x : Context} (cleared : x.state = .empty → x = emptyContext)
    (fits : x.axles.length ≤ 16) : OpenLane l (s.withContext l x) :=
  ⟨h.toLanesConsistent.withContext cleared fits fun hc => absurd hc h.notClosed, h.notClosed⟩

theorem closeVehicle (h : OpenLane l s) (cause : Flags) : OpenLane l (closeVehicle l cause s) := by
  unfold Machine.closeVehicle
  dsimp only
  split
  · exact ⟨(h.toLanesConsistent.emptied l).of_parts h.alerts (contexts := rfl) (occupied := rfl), h.notClosed⟩
  · refine OpenLane.finishTest (OpenLane.withContext ?_ (fun _ => rfl) (Nat.zero_le _)) ..
    split
    · exact (h.commitRecord _).startTrigger
    · exact h.commitRecord _

theorem openVehicle (h : OpenLane l s) {c : Context} (opens : c.state ≠ .empty) (fits : c.axles.length ≤ 16) :
    OpenLane l (openVehicle l c s) :=
  (h.withContext (x := { c with channelHeld := s.laneHeld l }) (fun he => absurd he opens) fits).markVehicleOpened l

theorem openByPresence (h : OpenLane l s) (tick : Time) (stamp : Stamp) : OpenLane l (openByPresence l tick stamp s) :=
  h.openVehicle (by dsimp only; split <;> nofun) (Nat.zero_le _)

theorem openByAxle (h : OpenLane l s) (a : Axle) (successor : Option (Time × Stamp)) (continuation : Bool) :
    OpenLane l (openByAxle l a successor continuation s) :=
  h.openVehicle (by dsimp only; split <;> nofun) (Nat.le_of_ble_eq_true rfl)

theorem openSuccessor (h : OpenLane l s) (successor : Option (Time × Stamp)) :
    OpenLane l (openSuccessor l successor s) := by
  unfold Machine.openSuccessor
  split
  · exact h.openByPresence ..
  · exact h

/-- A context that holds a vehicle takes up one more axle while it has less than 16 (R80, R81). -/
theorem appendAxle (h : OpenLane l s) (a : Axle) (holds : (s.context l).state ≠ .empty)
    (room : (s.context l).axles.length < 16) : OpenLane l (appendAxle l a s) :=
  h.withContext (fun he => absurd he holds) (by
    dsimp only
    rw [List.length_append, List.length_singleton]
    omega)

theorem axleArrives (h : OpenLane l s) (a : Axle) : OpenLane l (axleArrives l a s) := by
  unfold Machine.axleArrives
  dsimp only
  split
  · exact h.openByAxle ..
  · rename_i holds
    split
    · rename_i none
      rw [List.getLast?_eq_none_iff] at none
      exact h.appendAxle _ holds (by simp [none])
    · (repeat' split)
      · exact (h.closeVehicle _).openByAxle ..
      · exact (h.closeVehicle _).openByAxle ..
      · exact h.appendAxle _ holds (by omega)

theorem takeOccupied (h : OpenLane l s) : OpenLane l (takeOccupied l s) := by
  have ha : OpenLane l ((Machine.abortTestOn l s).withOccupied l (some (Machine.abortTestOn l s).now)) :=
    have hs := h.abortTestOn l
    ⟨hs.toLanesConsistent.withOccupied fun hc => absurd hc hs.notClosed, hs.notClosed⟩
  have fits := ha.axles l
  unfold Machine.takeOccupied
  dsimp only
  split
  · exact ha.openByPresence ..
  · exact ha.withContext (fun he => absurd (‹_ = ContextState.opened›.symm.trans he) nofun) fits
  · (repeat' split)
    · exact ha.withContext nofun fits
    · exact ha.withContext (fun he => absurd (‹_ = ContextState.closing›.symm.trans he) nofun) fits
    · exact ha

theorem takeReleased (h : OpenLane l s) : OpenLane l (takeReleased l s) := by
  have ho : OpenLane l (s.withOccupied l none) := ⟨h.toLanesConsistent.withOccupied fun _ => rfl, h.notClosed⟩
  unfold Machine.takeReleased
  dsimp only
  split
  · exact ho.withContext nofun (ho.axles l)
  · exact ho
  · exact ho

theorem rereadPresence (h : OpenLane l s) : OpenLane l (rereadPresence l s) := by
  unfold Machine.rereadPresence
  (repeat' split)
  · exact h.takeOccupied
  · exact h.takeReleased
  · exact h

theorem closeDelayExpires (h : OpenLane l s) : OpenLane l (closeDelayExpires l s) :=
  (h.closeVehicle 0).openSuccessor _

theorem durationExpires (h : OpenLane l s) : OpenLane l (durationExpires l s) := by
  have ho := (h.closeVehicle Flag.timeout).openSuccessor (s.context l).successor
  unfold Machine.durationExpires
  dsimp only
  split
  · exact ho.closeVehicle _
  · exact ho

end OpenLane
end Sys2Proof.Machine
end

section
/-! The lanes' invariants through crossings and the pool (R21 to R33, R82). -/

namespace Sys2Proof.Machine

/-! ### Crossings -/

theorem length_insertCrossing (x : Crossing) (q : List Crossing) : (insertCrossing x q).length = q.length + 1 := by
  induction q with
  | nil => rfl
  | cons y ys ih =>
    unfold insertCrossing
    split <;> simp [ih]

theorem LanesConsistent.expireQueue {s : State} (h : LanesConsistent s) (l : Lane) :
    LanesConsistent (expireQueue l s) := by
  have hq : LanesConsistent (s.withQueue l ((s.queue l).filter fun x => !entryExpired s l x)) :=
    h.withQueue ((List.length_filter_le _ _).trans (h.queues l)) fun hc => by simp [(h.quiet l hc).queue]
  exact hq.of_parts h.alerts (pools := rfl) (queues := rfl)

namespace OpenLane

variable {s : State} {l : Lane}

theorem withQueue (h : OpenLane l s) {q : List Crossing} (fits : q.length ≤ 16) : OpenLane l (s.withQueue l q) :=
  ⟨h.toLanesConsistent.withQueue fits fun hc => absurd hc h.notClosed, h.notClosed⟩

theorem countOrphanA (h : OpenLane l s) (l' : Lane) : OpenLane l (s.countOrphanA l') :=
  ⟨h.of_parts h.alerts (pools := rfl) (queues := rfl), h.notClosed⟩

theorem countOrphanB (h : OpenLane l s) (l' : Lane) : OpenLane l (s.countOrphanB l') :=
  ⟨h.of_parts h.alerts (pools := rfl) (queues := rfl), h.notClosed⟩

theorem joinRowA {x : Crossing} (h : OpenLane x.lane s) : OpenLane x.lane (joinRowA x s) := by
  have fits := h.queues x.lane
  unfold Machine.joinRowA
  dsimp only
  split
  · refine (h.withQueue ?_).countOrphanA _
    rw [length_insertCrossing, List.length_tail]
    omega
  · refine h.withQueue ?_
    rw [length_insertCrossing]
    omega

theorem matchRowB {b : Crossing} (q : List Crossing) (h : OpenLane b.lane s) (fits : q.length ≤ 16) :
    OpenLane b.lane (matchRowB b q s) := by
  induction q generalizing s with
  | nil => exact (h.withQueue (Nat.zero_le _)).countOrphanB _
  | cons x rest ih =>
    have shorter : rest.length ≤ 16 := by
      rw [List.length_cons] at fits
      omega
    unfold Machine.matchRowB
    dsimp only
    (repeat' split)
    · exact ih (h.countOrphanA _) shorter
    · exact (h.withQueue fits).countOrphanB _
    · exact (h.withQueue shorter).axleArrives _

theorem routeCrossing {x : Crossing} (h : OpenLane x.lane s) : OpenLane x.lane (routeCrossing x s) := by
  have he : OpenLane x.lane (Machine.expireQueue x.lane s) := ⟨h.toLanesConsistent.expireQueue _, h.notClosed⟩
  unfold Machine.routeCrossing
  split
  · exact h.joinRowA
  · exact he.matchRowB _ (he.queues _)

end OpenLane

theorem closest_mem {h k : PoolHit} {q : List PoolHit} (hk : closest h q = some k) : k ∈ q := by
  refine List.foldlRecOn (motive := fun best => ∀ k, best = some k → k ∈ q) q _ (fun _ e => by cases e) ?_ k hk
  intro best hbest y hy k hk
  split at hk
  · exact Option.some.inj hk ▸ hy
  · split at hk
    · exact Option.some.inj hk ▸ hy
    · exact hbest k hk

theorem neighbourLane_ne {l m : Lane} {x : Half} (h : neighbourLane l x = some m) : m ≠ l := by
  rintro rfl
  cases m <;> cases x <;> simp [neighbourLane] at h

/-- A straddle partner stands in the pool of the neighbour lane, and both lanes are OPEN (R23). -/
theorem straddlePartner_some {s : State} {h k : PoolHit} {m : Lane} (hk : straddlePartner s h = some (m, k)) :
    m ≠ h.channel.lane ∧ s.mode h.channel.lane = .opened ∧ s.mode m = .opened ∧ k ∈ s.pool m h.channel.row := by
  unfold straddlePartner at hk
  split at hk
  · cases hk
  · split at hk
    · rename_i n hn modes
      rw [Option.map_eq_some_iff] at hk
      obtain ⟨y, hy, e⟩ := hk
      obtain ⟨rfl, rfl⟩ := Prod.mk.inj e
      exact ⟨neighbourLane_ne hn, modes.1, modes.2, (List.mem_filter.mp (closest_mem hy)).1⟩
    · cases hk

theorem straddleLane_eq (s : State) (n m : Lane) : straddleLane s n m = n ∨ straddleLane s n m = m := by
  unfold straddleLane
  (repeat' split) <;> simp

theorem straddleCrossing_lane (s : State) (h k : PoolHit) :
    (straddleCrossing s h k).lane = h.channel.lane ∨ (straddleCrossing s h k).lane = k.channel.lane := by
  unfold straddleCrossing
  dsimp only
  have := straddleLane_eq s h.channel.lane k.channel.lane
  have := straddleLane_eq s k.channel.lane h.channel.lane
  split <;> tauto

namespace LanesConsistent
variable {s : State}

/-- A pool with some of its hits taken out. -/
theorem withPool_sublist (h : LanesConsistent s) {l : Lane} {r : Row} {x : List PoolHit} (hx : x.Sublist (s.pool l r)) :
    LanesConsistent (s.withPool l r x) :=
  h.withPool (fun k hk => h.keyed l r k (hx.subset hk)) (hx.length_le.trans (h.pools l r)) fun hc => by
    have := (h.quiet l hc).pools r
    rw [this] at hx
    exact List.sublist_nil.mp hx

end LanesConsistent

/-- A hit decides: where the lanes are consistent once it has left its pool, they are so after (R21 to R26). -/
theorem decideHit_consistent {s : State} (h : PoolHit)
    (hs : OpenLane h.channel.lane (s.withPool h.channel.lane h.channel.row
      ((s.pool h.channel.lane h.channel.row).erase h))) : LanesConsistent (decideHit h s) := by
  unfold decideHit
  dsimp only
  split
  · rename_i k _
    have := hs.withPool_sublist (l := h.channel.lane) (r := h.channel.row)
      (x := ((s.pool h.channel.lane h.channel.row).erase h).erase k) (by
      rw [State.pool_withPool_self]
      exact List.erase_sublist)
    rw [State.withPool_withPool] at this
    exact (OpenLane.routeCrossing (x := twoSided s h k) ⟨this, hs.notClosed⟩).toLanesConsistent
  · split
    · rename_i m k hk
      obtain ⟨hm, hl, hmo, hmem⟩ := straddlePartner_some hk
      have pool : s.pool m h.channel.row = (s.withPool h.channel.lane h.channel.row
          ((s.pool h.channel.lane h.channel.row).erase h)).pool m h.channel.row := by
        rw [State.pool_withPool, if_neg fun e => hm e.1]
      have hp := hs.withPool_sublist (l := m) (r := h.channel.row) (x := (s.pool m h.channel.row).erase k) (by
        rw [← pool]
        exact List.erase_sublist)
      have klane : k.channel.lane = m := (hs.keyed m h.channel.row k (pool ▸ hmem)).1
      refine (OpenLane.routeCrossing (x := straddleCrossing s h k) ⟨hp, ?_⟩).toLanesConsistent
      show s.mode _ ≠ _
      rcases straddleCrossing_lane s h k with e | e <;> rw [e]
      · simp [hl]
      · simp [klane, hmo]
    · exact (OpenLane.routeCrossing (x := oneSidedCrossing s h) hs).toLanesConsistent

/-! ### The pool -/

theorem length_insertHit (h : PoolHit) (q : List PoolHit) : (insertHit h q).length = q.length + 1 := by
  induction q with
  | nil => rfl
  | cons k ks ih =>
    unfold insertHit
    split <;> simp [ih]

theorem mem_insertHit {h k : PoolHit} {q : List PoolHit} (hk : k ∈ insertHit h q) : k = h ∨ k ∈ q := by
  induction q with
  | nil => simpa [insertHit] using hk
  | cons y ys ih =>
    unfold insertHit at hk
    split at hk <;> simp at hk ⊢ <;> tauto

/-- A hit joins its pool; a ninth makes the first of them decide (R20, R26). -/
theorem OpenLane.joinPool {s : State} {h : PoolHit} (hs : OpenLane h.channel.lane s) : LanesConsistent (joinPool h s) := by
  have keyed : ∀ k ∈ insertHit h (s.pool h.channel.lane h.channel.row),
      k.channel.lane = h.channel.lane ∧ k.channel.row = h.channel.row := by
    intro k hk
    rcases mem_insertHit hk with rfl | hk
    · exact ⟨rfl, rfl⟩
    · exact hs.keyed _ _ k hk
  have size := length_insertHit h (s.pool h.channel.lane h.channel.row)
  have fits := hs.pools h.channel.lane h.channel.row
  unfold Machine.joinPool
  dsimp only
  split
  · split
    · rename_i k rest e
      rw [e] at keyed size
      obtain ⟨klane, krow⟩ := keyed k List.mem_cons_self
      refine decideHit_consistent k ?_
      rw [klane, krow, State.pool_withPool_self, State.withPool_withPool, e, List.erase_cons_head]
      rw [List.length_cons] at size
      exact ⟨hs.withPool (fun y hy => keyed y (List.mem_cons_of_mem _ hy)) (by omega)
        fun hc => absurd hc hs.notClosed, hs.notClosed⟩
    · simp_all
  · rename_i room
    simp only [decide_eq_true_eq, not_le] at room
    exact hs.withPool keyed (by omega) fun hc => absurd hc hs.notClosed

end Sys2Proof.Machine
end

section
/-! The lanes' invariants through an activation, a restart and a change of lane mode (R15, R152, R157 to R159, R187). -/

namespace Sys2Proof.Machine

/-! ### Activation -/

/-- The take-up of the channels restores what the new set's enabled settings had broken (R3, R15). -/
theorem activateChannel_off {mode : LaneMode} {old new : Bool} {c : Channel}
    (h : c.state = .off ↔ mode = .closed ∨ old = false) :
    (activateChannel mode old new c).state = .off ↔ mode = .closed ∨ new = false := by
  cases old <;> cases new <;> simp_all [activateChannel, Channel.toOff, Channel.toSettling]
  split <;> simp_all

theorem activateSfe_eq (old : CalSet) (s : State) :
    activateSfe old s = s.withChannels fun c => activateChannel (s.mode c.lane) (old.channels.chan c).enabled
      (s.set.channels.chan c).enabled (s.channel c) := rfl

theorem context_markCalChanged (s : State) (l : Lane) :
    (markCalChanged s).context l =
      if (s.context l).state = .empty then s.context l else { s.context l with calChanged := true } := Quad.get_of ..

namespace LanesConsistent

variable {s : State}

theorem activateSfe (h : LanesConsistent s) : LanesConsistent (activateSfe s.cc.active (adoptEdits s)) :=
  { h with
    off := fun c => by
      rw [activateSfe_eq, State.channel_withChannels]
      exact activateChannel_off (h.off c)
    quiet := fun l hl => { h.quiet l hl with } }

theorem activateXf (h : LanesConsistent s) : LanesConsistent (activateXf s) := by
  have hw : LanesConsistent { s with xf := { s.xf with windows := transitWindows s.set } } :=
    h.of_parts h.alerts (pools := rfl) (queues := rfl)
  exact List.foldlRecOn _ _ hw fun _ hu l _ => hu.expireQueue l

theorem activatePtu (h : LanesConsistent s) (old : CalSet) : LanesConsistent (activatePtu old s) :=
  h.of_parts h.alerts

theorem markCalChanged (h : LanesConsistent s) : LanesConsistent (markCalChanged s) :=
  { h with
    cleared := fun l => by
      rw [context_markCalChanged]
      split
      · exact h.cleared l
      · exact fun he => absurd he ‹_›
    axles := fun l => by
      rw [context_markCalChanged]
      split <;> exact h.axles l
    quiet := fun l hl => { h.quiet l hl with
      context := by
        rw [context_markCalChanged, if_pos (h.quiet l hl).context]
        exact (h.quiet l hl).context } }

theorem activateDuration (h : LanesConsistent s) (l : Lane) : LanesConsistent (activateDuration l s) := by
  unfold Machine.activateDuration
  split
  · rename_i due
    rw [durationDue, Bool.and_eq_true, decide_eq_true_eq] at due
    exact (h.holding due.1).durationExpires.toLanesConsistent
  · exact h

theorem activatePolarity (h : LanesConsistent s) (old : CalSet) (l : Lane) :
    LanesConsistent (activatePolarity old l s) := by
  unfold Machine.activatePolarity
  split
  · rename_i changes
    exact (OpenLane.mk h changes.1).rereadPresence.toLanesConsistent
  · exact h

theorem activateVa (h : LanesConsistent s) (old : CalSet) : LanesConsistent (activateVa old s) :=
  List.foldlRecOn _ _ (List.foldlRecOn _ _ h.markCalChanged fun _ hu l _ => hu.activateDuration l)
    fun _ hu l _ => hu.activatePolarity old l

theorem endCommit (h : LanesConsistent s) : LanesConsistent (endCommit s) := h.of_parts h.alerts (active := rfl)

theorem revertEdits (h : LanesConsistent s) : LanesConsistent (revertEdits s) := h.of_parts h.alerts (active := rfl)

theorem startPersist (h : LanesConsistent s) : LanesConsistent (startPersist s) := h.of_parts h.alerts (active := rfl)

theorem activate (h : LanesConsistent s) : LanesConsistent (activate s) :=
  (((((h.activateSfe.activateXf).activatePtu _).activateVa _).endCommit).raiseAll _).startPersist

end LanesConsistent

/-! ### Restart -/

/-- The device at a restart before presence is re-read: everything else of R187 but the ports. -/
def restarted (s : State) : State :=
  restartRr (restartCle (restartContexts (restartXf (restartSfe (restartLtg (restartCc s))))))

theorem restartDevice_eq (s : State) : restartDevice s = restartPn (rereadAll (restarted s)) := rfl

section restarted
variable (s : State)

@[simp] theorem restarted_clock : (restarted s).clock = s.clock := by simp [restarted]
@[simp] theorem restarted_pins : (restarted s).pins = s.pins := by simp [restarted]
@[simp] theorem restarted_ptu : (restarted s).ptu = s.ptu := by simp [restarted]
@[simp] theorem restarted_ports : (restarted s).ports = s.ports := by simp [restarted]

@[simp] theorem restarted_set : (restarted s).set = s.set := by
  simp [restarted, State.set, restartCc, revertEdits]

@[simp] theorem restarted_test : (restarted s).ltg.test = none := by simp [restarted, restartLtg]
@[simp] theorem restarted_mode (l : Lane) : (restarted s).mode l = .opened := by
  simp [restarted, State.mode, restartLtg]

@[simp] theorem restarted_context (l : Lane) : (restarted s).context l = emptyContext := by
  simp [restarted, State.context, restartContexts]

@[simp] theorem restarted_occupied : (restarted s).va.occupied = s.va.occupied := by simp [restarted, restartContexts]
@[simp] theorem restarted_queue (l : Lane) : (restarted s).queue l = [] := by simp [restarted, State.queue, restartXf]

@[simp] theorem restarted_triggers (l : Lane) : (restarted s).cle.triggers.get l = none := by
  simp [restarted, restartCle]

@[simp] theorem restarted_pool (l : Lane) (r : Row) : (restarted s).pool l r = [] := by
  simp only [restarted, State.pool, restartRr_xf, restartCle_xf, restartContexts_xf, restartXf, Quad.row, Quad.get_all]
  cases r <;> rfl

theorem restarted_channel (c : ChannelId) : (restarted s).channel c =
    if (s.set.channels.chan c).enabled then (s.channel c).toSettling else (s.channel c).toOff := by
  have sfe : (restarted s).sfe = (restartSfe (restartLtg (restartCc s))).sfe := by simp [restarted]
  rw [State.channel, sfe]
  exact Quad.chan_ofChan ..

theorem restarted_ringPort (p : PortId) : (restarted s).ringPort p =
    if s.disabled p then s.ringPort p
    else { s.ringPort p with cursor := s.rr.next, alerts := [], recordLoss := 0, alertLoss := 0 } := by
  by_cases hd : (s.ports.get p).role = .disabled <;>
    simp [restarted, State.ringPort, restartRr, State.disabled, State.port, hd]

end restarted

/-! ### Where no test runs -/

theorem markVehicleOpened_none {s : State} (h : s.ltg.test = none) (l : Lane) : markVehicleOpened l s = s := by
  unfold markVehicleOpened
  rw [h]

theorem openVehicle_none {s : State} (h : s.ltg.test = none) (l : Lane) (c : Context) :
    openVehicle l c s = s.withContext l { c with channelHeld := s.laneHeld l } := by
  rw [openVehicle, markVehicleOpened_none (by exact h)]

theorem abortTestOn_none {s : State} (h : s.ltg.test = none) (l : Lane) : abortTestOn l s = s := by
  rw [abortTestOn, State.testLane, h]
  rfl

theorem takeOccupied_ltg {s : State} (h : s.ltg.test = none) (l : Lane) : (takeOccupied l s).ltg = s.ltg := by
  unfold takeOccupied
  rw [abortTestOn_none h]
  dsimp only
  split
  · rw [openByPresence, openVehicle_none (by exact h)]
    rfl
  · rfl
  · (repeat' split) <;> rfl

/-- A re-read without a test leaves modes and test as they are (R74). -/
theorem rereadPresence_ltg {s : State} (h : s.ltg.test = none) (l : Lane) : (rereadPresence l s).ltg = s.ltg := by
  unfold rereadPresence
  (repeat' split)
  · exact takeOccupied_ltg h l
  · exact takeReleased_ltg l s
  · rfl

namespace LanesConsistent

variable {s : State}

theorem restarted (h : LanesConsistent s) : LanesConsistent (restarted s) where
  test l := by simp [State.testLane]
  off c := by
    rw [restarted_channel, restarted_mode, restarted_set]
    split <;> simp_all [Channel.toSettling, Channel.toOff]
  keyed l r k hk := by simp at hk
  quiet l hl := by simp at hl
  cleared l _ := restarted_context s l
  pools l r := by simp
  queues l := by simp
  axles l := by simp [emptyContext]
  alerts p := by
    rw [restarted_ringPort]
    split
    · exact h.alerts p
    · exact Nat.zero_le _

theorem restartDevice (h : LanesConsistent s) : LanesConsistent (restartDevice s) := by
  have hr : LanesConsistent (rereadAll (Machine.restarted s)) ∧
      (rereadAll (Machine.restarted s)).ltg = (Machine.restarted s).ltg := by
    refine List.foldlRecOn (motive := fun u => LanesConsistent u ∧ u.ltg = (Machine.restarted s).ltg) _ _
      ⟨h.restarted, rfl⟩ fun u ⟨hu, ltg⟩ l _ => ?_
    have opened : u.mode l = .opened := by rw [State.mode, ltg]; exact restarted_mode s l
    exact ⟨(OpenLane.mk hu (by simp [opened])).rereadPresence.toLanesConsistent,
      (rereadPresence_ltg (by rw [ltg]; rfl) l).trans ltg⟩
  rw [restartDevice_eq]
  exact hr.1.of_parts hr.1.alerts

end LanesConsistent

/-! ### Lane modes (R157) -/

theorem mode_finishTest_opened {s : State} {l : Lane} (h : s.mode l = .opened) (l' : Lane) (axles : List Axle) (seq : Seq) :
    (finishTest l' axles seq s).mode l = .opened := by
  unfold finishTest
  split
  · split
    · rw [mode_completeTest, h, ite_self]
    · exact h
  · exact h

theorem mode_closeVehicle_opened {s : State} {l : Lane} (h : s.mode l = .opened) (l' : Lane) (cause : Flags) :
    (closeVehicle l' cause s).mode l = .opened := by
  unfold closeVehicle
  dsimp only
  split
  · exact h
  · refine mode_finishTest_opened ?_ ..
    rw [← h]
    split <;> simp [State.mode]

/-- A closed vehicle leaves its context EMPTY (R86). -/
@[simp] theorem context_closeVehicle_self (l : Lane) (cause : Flags) (s : State) :
    (closeVehicle l cause s).context l = emptyContext := by
  unfold closeVehicle
  dsimp only
  split
  · exact State.context_withContext_self ..
  · rw [State.context, finishTest_va]
    exact State.context_withContext_self ..

namespace LanesConsistent

variable {s : State} {l : Lane}

/-- An OPEN lane without traffic becomes CLOSED with its channels OFF (R3, R158). -/
theorem shut (h : LanesConsistent s) (opened : s.mode l = .opened) (quiet : LaneQuiet s l) :
    LanesConsistent (forLaneChannels Channel.toOff l (s.withMode l .closed)) := by
  rw [forLaneChannels_eq]
  have untested := h.test l
  exact
    { h with
      test := fun l' => by
        show (s.withMode l .closed).mode l' = .test ↔ s.testLane = some l'
        rw [State.mode_withMode]
        split
        · subst l'
          simp_all
        · exact h.test l'
      off := fun c => by
        show ((s.withMode l .closed).withChannels _ |>.channel c).state = .off ↔
          (s.withMode l .closed).mode c.lane = .closed ∨ (s.set.channels.chan c).enabled = false
        rw [State.channel_withChannels, State.mode_withMode]
        split
        · simp [Channel.toOff]
        · exact h.off c
      quiet := fun l' hl => by
        change (s.withMode l .closed).mode l' = .closed at hl
        rw [State.mode_withMode] at hl
        split at hl
        · subst l'
          exact { quiet with }
        · exact { h.quiet l' hl with } }

/-- A lane closes: its vehicle, then all that its traffic has left (R158). -/
theorem closeLane (h : LanesConsistent s) (opened : s.mode l = .opened) : LanesConsistent (closeLane l s) := by
  have ho : OpenLane l s := ⟨h, by simp [opened]⟩
  obtain ⟨u, hu, hc, hm, e⟩ : ∃ u, LanesConsistent u ∧ (u.context l).state = .empty ∧ u.mode l = .opened ∧
      u = if (s.context l).state = .empty then s else closeVehicle l Flag.interrupted s := by
    refine ⟨_, ?_, ?_, ?_, rfl⟩ <;> split
    · exact h
    · exact (ho.closeVehicle _).toLanesConsistent
    · assumption
    · rw [context_closeVehicle_self]
      rfl
    · exact opened
    · exact mode_closeVehicle_opened opened ..
  have hq := ((hu.withOccupied (l := l) (x := none) fun _ => rfl).emptyCrossings l).withTrigger (l := l) (x := none)
    fun _ => rfl
  have quiet : LaneQuiet ((Machine.emptyCrossings l (u.withOccupied l none)).withTrigger l none) l :=
    { pools := fun r => by cases r <;> simp [Machine.emptyCrossings, State.pool_withPool]
      queue := State.queue_withQueue_self ..
      context := hc
      unoccupied := by simp [State.isOccupied, State.withOccupied]
      trigger := by simp [triggers_withTrigger] }
  have hs := hq.shut hm quiet
  unfold Machine.closeLane
  dsimp only
  rw [← e]
  rw [forLaneChannels_eq] at hs ⊢
  exact hs

end LanesConsistent

/-- The enabled channels of a lane that opens go to SETTLING (R159). -/
theorem settle_channels (l : Lane) (s : State) :
    l.channels.foldl (fun s c =>
      if (s.set.channels.chan c).enabled then s.withChannel c (s.channel c).toSettling else s) s =
    s.withChannels fun c => if c.lane = l then
      (if (s.set.channels.chan c).enabled then (s.channel c).toSettling else s.channel c) else s.channel c := by
  have each (cs : List ChannelId) (u : State) (hu : u.set = s.set) :
      cs.foldl (fun s c =>
        if (s.set.channels.chan c).enabled then s.withChannel c (s.channel c).toSettling else s) u =
      cs.foldl (fun u c => u.withChannel c
        (if (s.set.channels.chan c).enabled then (u.channel c).toSettling else u.channel c)) u := by
    induction cs generalizing u with
    | nil => rfl
    | cons c cs ih =>
      rw [List.foldl_cons, List.foldl_cons, hu]
      split
      · exact ih _ hu
      · have same : u.withChannel c (u.channel c) = u := by simp [State.withChannel, State.channel]
        rw [same]
        exact ih _ hu
  rw [each _ s rfl]
  exact foldl_channels (fun c x => if (s.set.channels.chan c).enabled then x.toSettling else x) l s

/-- A lane opens: its enabled channels settle, and its presence is re-read (R159). -/
theorem LanesConsistent.openLane {s : State} {l : Lane} (h : LanesConsistent s) (closed : s.mode l = .closed) :
    LanesConsistent (openLane l s) := by
  unfold Machine.openLane
  dsimp only
  rw [settle_channels]
  have untested := h.test l
  refine OpenLane.toLanesConsistent (l := l) (OpenLane.rereadPresence ?_)
  refine ⟨{ h with test := fun l' => ?_, off := fun c => ?_, quiet := fun l' hl => ?_ }, ?_⟩
  · show (s.withMode l .opened).mode l' = .test ↔ s.testLane = some l'
    rw [State.mode_withMode]
    split
    · subst l'
      simp_all
    · exact h.test l'
  · have hc := h.off c
    show ((s.withMode l .opened).withChannels _ |>.channel c).state = .off ↔
      (s.withMode l .opened).mode c.lane = .closed ∨ (s.set.channels.chan c).enabled = false
    rw [State.channel_withChannels, State.mode_withMode, State.set_withMode, State.channel_withMode]
    split
    · split <;> simp_all [Channel.toSettling]
    · exact hc
  · change (s.withMode l .opened).mode l' = .closed at hl
    rw [State.mode_withMode] at hl
    split at hl
    · cases hl
    · exact { h.quiet l' hl with }
  · show (s.withMode l .opened).mode l ≠ .closed
    simp

end Sys2Proof.Machine
end

section
/-! The lanes' invariants through samples, the remaining events and the port commands, so through every step: O52. -/

namespace Sys2Proof.Machine

/-! ### Samples and channel events -/

theorem sampleChannel_off (e : ChannelEntry) (m : Nat) (now : Time) (x inj : Nat) (c : Channel) :
    (sampleChannel e m now x inj c).state = .off ↔ c.state = .off := by
  unfold sampleChannel
  dsimp only
  split
  case h_4 =>
    unfold markOverLong quietSample loudSample
    split <;> simp_all
  case h_3 => split <;> simp_all [startHit]
  all_goals simp_all

theorem takeTick_eq (inputs : Inputs) (s : State) : takeTick inputs s =
    ({ s with clock := s.clock.advance, pins := readPins inputs s.pins } : State).withChannels fun c =>
      sampleChannel (s.set.channels.chan c) s.set.site.maxHit s.clock.advance.now (inputs.samples.chan c).toNat
        (injectedExcess s s.clock.advance.now c) (s.channel c) := rfl

namespace LanesConsistent

variable {s : State}

/-- A channel that is not OFF belongs to a lane that is not CLOSED (R3). -/
theorem openChannel (h : LanesConsistent s) {id : ChannelId} (on : (s.channel id).state ≠ .off) :
    OpenLane id.lane s := ⟨h, fun hc => on ((h.off id).mpr (.inl hc))⟩

theorem takeTick (h : LanesConsistent s) (inputs : Inputs) : LanesConsistent (takeTick inputs s) := by
  have hp : LanesConsistent { s with clock := s.clock.advance, pins := readPins inputs s.pins } := h.of_parts h.alerts
  rw [takeTick_eq]
  exact hp.withChannels _ fun c => sampleChannel_off ..

theorem eventSettling (h : LanesConsistent s) (c : ChannelId) : LanesConsistent (eventSettling c s) :=
  whenever_keeps (fun due => h.withChannel c _ (by simp_all [settlingDone])) h

theorem eventHoldEnd (h : LanesConsistent s) (c : ChannelId) : LanesConsistent (eventHoldEnd c s) :=
  whenever_keeps (fun due => h.withChannel c _ (by simp_all [holdDone, Channel.toSettling])) h

theorem markHeld (h : LanesConsistent s) (l : Lane) : LanesConsistent (markHeld l s) := by
  unfold Machine.markHeld
  split
  · exact h
  · rename_i holds
    exact (OpenLane.withContext (h.holding holds) (x := { s.context l with channelHeld := true })
      (fun he => absurd he holds) (h.axles l)).toLanesConsistent

theorem eventOverrun (h : LanesConsistent s) (c : ChannelId) : LanesConsistent (eventOverrun c s) := by
  refine whenever_keeps (fun due => ?_) h
  have held := h.withChannel c (s.channel c).toHeld (by simp_all [hitTooLong, Channel.toHeld])
  have counted : LanesConsistent ((s.withChannel c (s.channel c).toHeld).countHeld c.lane) :=
    held.of_parts held.alerts (channels := rfl)
  exact (counted.markHeld c.lane).raiseAll _

theorem noteEmptied (h : LanesConsistent s) : LanesConsistent (noteEmptied s) := by
  unfold Machine.noteEmptied
  split
  · exact h.of_parts h.alerts (active := rfl)
  · exact h

theorem eventHitEnd (h : LanesConsistent s) (c : ChannelId) : LanesConsistent (eventHitEnd c s) := by
  refine whenever_keeps (fun due => LanesConsistent.noteEmptied ?_) h
  simp only [hitDone, decide_eq_true_eq] at due
  have idle : OpenLane c.lane (s.withChannel c (s.channel c).toIdle) :=
    ⟨h.withChannel c _ (by simp [due.1, Channel.toIdle]), (h.openChannel (by simp [due.1])).notClosed⟩
  unfold hitEnds
  dsimp only
  split
  · exact idle.of_parts idle.alerts (channels := rfl)
  · exact idle.joinPool (h := handedHit s c (s.channel c))

theorem eventSecond (h : LanesConsistent s) : LanesConsistent (eventSecond s) :=
  whenever_keeps (fun _ => h.of_parts h.alerts.of_rr) h

/-! ### Crossings, presence, vehicles and tests -/

theorem eventPairing (h : LanesConsistent s) (l : Lane) (r : Row) (i : Nat) : LanesConsistent (eventPairing l r i s) := by
  unfold Machine.eventPairing
  split
  · rename_i k hk
    have mem : k ∈ s.pool l r := by
      unfold pairingDue at hk
      split at hk
      · split at hk
        · exact Option.some.inj hk ▸ List.mem_of_getElem? ‹_›
        · cases hk
      · cases hk
    obtain ⟨klane, krow⟩ := h.keyed l r k mem
    refine (decideHit_consistent k ?_).noteEmptied
    rw [klane, krow]
    refine ⟨h.withPool_sublist List.erase_sublist, fun hc => ?_⟩
    simp [(h.quiet l hc).pools r] at mem
  · exact h

theorem eventOccupied (h : LanesConsistent s) (l : Lane) : LanesConsistent (eventOccupied l s) := by
  refine whenever_keeps (fun due => LanesConsistent.noteEmptied ?_) h
  simp only [occupiedDue, takesPresence, Bool.and_eq_true, decide_eq_true_eq] at due
  exact (OpenLane.mk h due.1.1.2).takeOccupied.toLanesConsistent

theorem eventReleased (h : LanesConsistent s) (l : Lane) : LanesConsistent (eventReleased l s) := by
  refine whenever_keeps (fun due => ?_) h
  simp only [releasedDue, takesPresence, Bool.and_eq_true, decide_eq_true_eq] at due
  exact (OpenLane.mk h due.1.1.2).takeReleased.toLanesConsistent

theorem eventCloseDelay (h : LanesConsistent s) (l : Lane) : LanesConsistent (eventCloseDelay l s) := by
  refine whenever_keeps (fun due => LanesConsistent.noteEmptied ?_) h
  have holds : (s.context l).state ≠ .empty := by
    unfold closeDelayDue at due
    split at due <;> simp_all
  exact (h.holding holds).closeDelayExpires.toLanesConsistent

theorem eventDuration (h : LanesConsistent s) (l : Lane) : LanesConsistent (eventDuration l s) := by
  refine whenever_keeps (fun due => LanesConsistent.noteEmptied ?_) h
  rw [durationDue, Bool.and_eq_true, decide_eq_true_eq] at due
  exact (h.holding due.1).durationExpires.toLanesConsistent

theorem eventInjection (h : LanesConsistent s) : LanesConsistent (eventInjection s) := by
  unfold Machine.eventInjection
  split
  · refine h.withLtg (fun l => ?_) fun _ => Iff.rfl
    have := h.test l
    simpa [State.testLane, State.mode, TestContext.pulseAt, *] using this
  · exact h

theorem eventTestExpiry (h : LanesConsistent s) : LanesConsistent (eventTestExpiry s) := by
  unfold Machine.eventTestExpiry
  split
  · rename_i t due
    refine (h.completeTest (t := t) ?_ _ _).noteEmptied
    unfold testDue at due
    split at due
    · split at due
      · exact Option.some.inj due ▸ ‹_›
      · cases due
    · cases due
  · exact h

theorem persistCompletes (h : LanesConsistent s) (equal : Bool) : LanesConsistent (persistCompletes equal s) :=
  h.of_parts h.alerts.of_rr (active := by simp [Machine.persistCompletes])

theorem claimExpires (h : LanesConsistent s) : LanesConsistent (claimExpires s) := h.revertEdits.raiseAll _

theorem commitTimesOut (h : LanesConsistent s) : LanesConsistent (commitTimesOut s) :=
  h.of_parts h.alerts (active := rfl)

theorem losePower (h : LanesConsistent s) : LanesConsistent (losePower s) :=
  { h with quiet := fun l hl => { h.quiet l hl with } }

theorem eventPersistOverdue (h : LanesConsistent s) : LanesConsistent (eventPersistOverdue s) :=
  whenever_keeps (fun _ =>
    have taken : LanesConsistent { s with freeIndex := s.freeIndex + 1 } := h.of_parts h.alerts
    taken.persistCompletes _) h

theorem requestRestart (h : LanesConsistent s) : LanesConsistent (requestRestart s) := by
  unfold Machine.requestRestart
  split <;> exact h.of_parts h.alerts (active := rfl)

theorem eventRestartInput (h : LanesConsistent s) : LanesConsistent (eventRestartInput s) :=
  whenever_keeps (fun _ =>
    have taken : LanesConsistent { s with pins := { s.pins with restartEdge := false } } := h.of_parts h.alerts
    taken.requestRestart) h

end LanesConsistent

/-! ### Power -/

theorem applyPower_pool (straps : Tri Strap) (s : State) (l : Lane) (r : Row) : (applyPower straps s).pool l r = [] := by
  show (Quad.all (⟨[], []⟩ : Rows (List PoolHit))).row l r = []
  rw [Quad.row, Quad.get_all]
  cases r <;> rfl

/-- The device at power-on (R18, R39, R95, R134, R168). -/
theorem applyPower_consistent (straps : Tri Strap) (s : State) : LanesConsistent (applyPower straps s) where
  test l := by simp [applyPower, initialLtg, State.mode, State.testLane]
  off c := by
    have mode : (applyPower straps s).mode c.lane = .opened := Quad.get_all ..
    have channel : (applyPower straps s).channel c =
        initialChannel ((applyPower straps s).set.channels.chan c).enabled := Quad.chan_ofChan ..
    rw [mode, channel, initialChannel]
    cases ((applyPower straps s).set.channels.chan c).enabled <;> simp
  keyed l r k hk := by simp [applyPower_pool] at hk
  quiet l hl := by simp [applyPower, initialLtg, State.mode] at hl
  cleared l _ := Quad.get_all ..
  pools l r := by simp [applyPower_pool]
  queues l := by simp [applyPower, initialXf, State.queue]
  axles l := by simp [applyPower, initialVa, State.context, emptyContext]
  alerts p := by simp [applyPower, initialRr, State.ringPort, initialRingPort]

/-! ### Port commands -/

namespace LanesConsistent

variable {s : State}

theorem startTest (h : LanesConsistent s) {l : Lane} (i : Ix4) (idle : s.ltg.test = none) (opened : s.mode l = .opened) :
    LanesConsistent (startTest l i s) := by
  have untested (l' : Lane) : s.mode l' ≠ .test := fun hm => by
    have := (h.test l').mp hm
    simp [State.testLane, idle] at this
  refine h.withLtg (x := (Machine.startTest l i s).ltg) (fun l' => ?_) fun l' => ?_
  · show (s.ltg.modes.set l .test).get l' = .test ↔ some l = some l'
    rw [Quad.get_set, Option.some.injEq, eq_comm (a := l)]
    split
    · simp [*]
    · exact iff_of_false (untested l') ‹_›
  · show (s.ltg.modes.set l .test).get l' = .closed ↔ s.mode l' = .closed
    rw [Quad.get_set]
    split
    · subst l'
      simp [opened]
    · rfl

theorem laneTest (h : LanesConsistent s) (b : List Byte) : LanesConsistent (doLaneTest b s).1 := by
  unfold doLaneTest
  split
  · (repeat' split)
    · exact h
    · exact h
    · exact h
    · rename_i idle ready
      simp only [laneReady, Bool.not_eq_false, Bool.and_eq_true, decide_eq_true_eq] at ready
      exact h.startTest _ (by simpa using idle) ready.1.1.1
  · exact h

theorem changeLane (h : LanesConsistent s) (l : Lane) (close : Bool) : LanesConsistent (changeLane l close s) := by
  unfold Machine.changeLane
  split
  · exact h
  · exact (h.closeLane ‹_›).noteEmptied
  · exact h.openLane ‹_›
  · exact h
  · exact (h.abortTestOn l).noteEmptied
  · refine (LanesConsistent.closeLane (h.abortTestOn l) ?_).noteEmptied
    have testing := (h.test l).mp ‹_›
    rw [Machine.abortTestOn, if_pos testing, mode_abortTest, if_pos testing]

theorem laneMode (h : LanesConsistent s) (b : List Byte) : LanesConsistent (doLaneMode b s).1 := by
  unfold doLaneMode
  split
  · exact h
  · split
    · exact h
    · exact h.changeLane ..

theorem withRingPort (h : LanesConsistent s) (p : PortId) {x : RingPort} (fits : x.alerts.length ≤ 16) :
    LanesConsistent (s.withRingPort p x) := h.of_parts (h.alerts.withRingPort p fits)

theorem zeroLaneCounters (h : LanesConsistent s) : LanesConsistent s.zeroLaneCounters :=
  { h with quiet := fun l hl => { h.quiet l hl with } }

theorem acceptCommit (h : LanesConsistent s) : LanesConsistent (acceptCommit s) := h.of_parts h.alerts (active := rfl)

theorem discardEdits (h : LanesConsistent s) : LanesConsistent (discardEdits s) := h.of_parts h.alerts (active := rfl)

theorem acceptWrite (h : LanesConsistent s) (p : PortId) (b : List Byte) : LanesConsistent (acceptWrite p b s) :=
  h.of_parts h.alerts.of_rr (active := rfl)

theorem channelResume (h : LanesConsistent s) (b : List Byte) : LanesConsistent (doChannelResume b s).1 := by
  unfold doChannelResume
  split
  · exact h
  · dsimp only
    split
    · exact h.withChannel _ _ (by simp [Channel.toSettling, *])
    · exact h

/-- No port command breaks the lanes; those of the ring keep the alert queues within their capacity (R123). -/
theorem runCommand (h : LanesConsistent s) (p : PortId) (b : List Byte) (c : CommandId) :
    LanesConsistent (runCommand p b s c).1 := by
  have fits := h.alerts p
  have clocked (x : Clock) : LanesConsistent { s with clock := x } := h.of_parts h.alerts
  cases c <;> simp only [Machine.runCommand]
  case status | counters | notices => exact h
  case laneMode => exact h.laneMode b
  case laneTest => exact h.laneTest b
  case channelResume => exact h.channelResume b
  case setClock => exact clocked _
  case restart => exact h.requestRestart
  case clearCounters => exact h.zeroLaneCounters
  case ackNotices =>
    unfold doAckNotices
    split
    · exact h
    · exact h.withPort ..
  case setNotice =>
    unfold doSetNotice
    (repeat' split)
    · exact h
    · exact h
    · exact h.withPort ..
  case tableSelect =>
    unfold doTableSelect
    (repeat' split)
    · exact h
    · exact h.withPort ..
    · exact h
  case tableRead =>
    unfold doTableRead
    dsimp only
    split
    · exact h
    · exact h.withPort ..
  case tableWrite =>
    unfold doTableWrite
    dsimp only
    (repeat' split)
    · exact h
    · exact h
    · exact h
    · exact h
    all_goals exact h.acceptWrite p b
  case commit =>
    unfold doCommit invalidCommit
    (repeat' split)
    case h_2.isFalse.isFalse => exact h.acceptCommit
    all_goals exact h
  case discard =>
    unfold doDiscard
    (repeat' split)
    · exact h
    · exact h.discardEdits
    · exact h
  case setFilter =>
    unfold doSetFilter
    (repeat' split)
    · exact h
    · exact h
    · exact h.withRingPort p (by exact fits)
  case setAlerts =>
    unfold doSetAlerts
    split
    · exact h
    · exact h.withRingPort p (by exact fits)
  case fetch =>
    unfold doFetch
    dsimp only
    split <;> exact h.withRingPort p (by exact fits)
  case readSeq =>
    unfold doReadSeq
    dsimp only
    (repeat' split) <;> exact h
  case seek =>
    unfold doSeek
    split
    · exact h
    · exact h.withRingPort p (by exact fits)
  case takeAlert =>
    unfold doTakeAlert
    split
    · exact h
    · rename_i rest queue
      rw [queue, List.length_cons] at fits
      exact h.withRingPort p (Nat.le_of_succ_le fits)

end LanesConsistent

theorem lanesConsistent_keptByParts : KeptByParts LanesConsistent where
  pending _ _ h := h.of_parts h.alerts
  early _ _ h := h.of_parts h.alerts
  pins _ _ h := h.of_parts h.alerts
  port p x _ _ h := h.withPort p x
  command p b c _ h := h.runCommand p b c
  activation _ _ h := h.activate
  restart _ _ h := h.restartDevice
  powerOn straps s _ := applyPower_consistent straps s
  powerLoss _ h := h.losePower
  tick inputs _ h := h.takeTick inputs
  settling c _ h := h.eventSettling c
  hitEnd c _ h := h.eventHitEnd c
  overrun c _ h := h.eventOverrun c
  holdEnd c _ h := h.eventHoldEnd c
  second _ h := h.eventSecond
  pairing l r i _ h := h.eventPairing l r i
  rowA l _ h := whenever_keeps (fun _ => h.expireQueue l) h
  occupied l _ h := h.eventOccupied l
  released l _ h := h.eventReleased l
  closeDelay l _ h := h.eventCloseDelay l
  duration l _ h := h.eventDuration l
  trigger _ _ h := whenever_keeps (fun _ => h.withTrigger fun _ => rfl) h
  injection _ h := h.eventInjection
  testExpiry _ h := h.eventTestExpiry
  claimIdle _ h := whenever_keeps (fun _ => h.claimExpires) h
  commitTimeout _ h := whenever_keeps (fun _ => h.commitTimesOut) h
  persist equal _ h := whenever_keeps (fun _ => h.persistCompletes equal) h
  persistOverdue _ h := h.eventPersistOverdue
  restartInput _ h := h.eventRestartInput

/-- Settles O52: the parts of a step each keep the lanes consistent. -/
theorem lanesStayConsistent : Obligations.LanesStayConsistent := by
  intro s t hl hc e
  exact (lanesConsistent_iff t).mp (lanesConsistent_keptByParts.step ((lanesConsistent_iff s).mpr ⟨hl, hc⟩) e)

end Sys2Proof.Machine
end

section
/-! Power-on and reset (R18, R39, R57, R95, R115, R134, R168, R188): O3 and O5. -/

namespace Sys2Proof.Machine

/-! ### Reset -/

theorem reset_eq : State.reset = applyPower resetStraps State.reset := rfl

theorem reset_ringInv : RingInv State.reset := by
  refine ⟨⟨by simp [State.reset, initialRr], fun i x h => ?_⟩, fun p _ => ?_⟩
  · simp [State.reset, initialRr] at h
  · simp [State.reset, initialRr, State.ringPort, initialRingPort, Rr.age, Rr.count]

/-- Settles O3: reset is a power-on, which leaves the lanes consistent, the ring empty and the calibration at rest. -/
theorem resetMeetsInvariants : Obligations.ResetMeetsInvariants := by
  have lanes : LanesConsistent State.reset := reset_eq ▸ applyPower_consistent resetStraps State.reset
  obtain ⟨laneInv, capacityInv⟩ := (lanesConsistent_iff _).mp lanes
  have claimInv : ClaimInv State.reset := fun _ => by simp [State.reset, initialCc, blankStore]
  exact ⟨rfl, reset_ringInv, capacityInv, claimInv, fun h => by simp [State.reset, initialCc] at h, laneInv⟩

/-! ### Power-on -/

/-- With no probe usable and no alternate, a lane's temperature is its fallback, substituted but for a FIXED source (R46). -/
theorem effectiveTemp_unusable {probes : Quad Probe} (h : ∀ i, usable (probes.get i) = none) (e : LaneEntry) :
    effectiveTemp probes e = (e.fallback, decide (e.kind ≠ .fixed)) := by
  cases hk : e.kind <;> simp [effectiveTemp, substituteTemp, hk, h]

theorem usable_initialProbe (enabled : Bool) : usable (initialProbe enabled) = none := by
  cases enabled <;> rfl

theorem initialPtu_probes (set : CalSet) (i : ProbeId) :
    (initialPtu set).probes.get i = initialProbe (set.probes.get i) := Quad.get_of ..

theorem initialPtu_lanes (set : CalSet) (l : Lane) :
    (initialPtu set).lanes.get l = freshLaneTemp set (initialPtu set).probes (set.lanes.get l) := Quad.get_of ..

theorem initialPtu_temp (set : CalSet) (l : Lane) :
    ((initialPtu set).lanes.get l).temp = (set.lanes.get l).fallback ∧
      ((initialPtu set).lanes.get l).substituted = decide ((set.lanes.get l).kind ≠ .fixed) := by
  have unusable (i : ProbeId) : usable ((initialPtu set).probes.get i) = none := by
    rw [initialPtu_probes]
    exact usable_initialProbe _
  simp [initialPtu_lanes, freshLaneTemp, effectiveTemp_unusable unusable]

theorem applyPower_laneCounters (straps : Tri Strap) (s : State) (l : Lane) :
    laneCounters (applyPower straps s) l = [0, 0, 0, 0, 0, 0, 0] := by
  simp [laneCounters, applyPower, initialRr, initialVa, initialXf, initialSfe, initialCle]

/-- Settles O5: every block's power-on value, read part by part. -/
theorem powerOnSetsBlocks : Obligations.PowerOnSetsBlocks := by
  intro straps s
  refine ⟨_, rfl, rfl, rfl, fun c => Quad.chan_ofChan .., fun l r => applyPower_pool .., fun l => ?_,
    fun i => Quad.get_of .., fun l => ⟨initialPtu_lanes .., initialPtu_temp _ l⟩, fun l => ?_, rfl, rfl, rfl, rfl, rfl,
    applyPower_laneCounters _ _, fun p => ⟨?_, _, Tri.get_of ..⟩⟩
  · exact ⟨Quad.get_all .., Quad.get_of ..⟩
  · simp [applyPower, initialVa, initialCle, initialLtg, State.context, State.isOccupied, State.mode]
  · show (Tri.of _).get p = _
    rw [Tri.get_of]
    cases hr : (straps.get p).role <;> rw [initialRingPort] <;> rfl

end Sys2Proof.Machine
end

section
/-! A channel's sample (R3 to R8, R12), state by state: O8. -/

namespace Sys2Proof.Machine

/-! ### One equation for each state -/

section
variable (e : ChannelEntry) (m : Nat) (now : Time) (x inj : Nat) {c : Channel}

theorem sampleChannel_off_eq (h : c.state = .off) : sampleChannel e m now x inj c = c := by simp [sampleChannel, h]

theorem sampleChannel_settling (h : c.state = .settling) : sampleChannel e m now x inj c =
    { c with baseline := if c.seeded then track 4 x c.baseline else 16 * x, seeded := true, settling := c.settling + 1 } := by
  simp [sampleChannel, h]

theorem sampleChannel_idle (h : c.state = .idle) : sampleChannel e m now x inj c =
    if startThreshold e ≤ excess x inj c.baseline then startHit now x (excess x inj c.baseline) c
    else { c with baseline := track 64 x c.baseline } := by
  simp [sampleChannel, h]

theorem sampleChannel_held (h : c.state = .held) : sampleChannel e m now x inj c =
    { c with hold := if excess x inj c.baseline < endLevel e then c.hold + 1 else 0 } := by
  simp [sampleChannel, h]

theorem sampleChannel_inHit (h : c.state = .inHit) : sampleChannel e m now x inj c =
    markOverLong m now (if excess x inj c.baseline < endLevel e then quietSample x (excess x inj c.baseline) c
      else loudSample now x (excess x inj c.baseline) c) := by
  simp [sampleChannel, h]

end

/-! ### Area and baseline -/

/-- An addition to the area, and a second, are held at the largest area as their sum is (R8). -/
theorem addArea_addArea (area quiet add : Nat) (mark : Bool) :
    addArea (addArea area quiet mark).1 add (addArea area quiet mark).2 =
      (min (area + quiet + add) maxArea, mark || decide (maxArea < area + quiet + add)) := by
  unfold addArea
  by_cases h1 : maxArea < area + quiet
  · have h2 : maxArea < area + quiet + add := by omega
    by_cases h3 : maxArea < maxArea + add <;> simp [h1, h2, h3] <;> omega
  · by_cases h2 : maxArea < area + quiet + add <;> simp [h1, h2] <;> omega

theorem loudSample_eq (now : Time) (x : Nat) (q : Int) (c : Channel) : loudSample now x q c =
    { c with
      area := min (c.area + c.quietArea + q.toNat) maxArea
      saturated := c.saturated || c.quietSat || decide (x = 4095) || decide (maxArea < c.area + c.quietArea + q.toNat)
      quietRun := 0, quietArea := 0, quietSat := false, tLast := now } := by
  simp only [loudSample, addArea_addArea]
  rw [Bool.or_right_comm]

theorem quietSample_eq (x : Nat) (q : Int) (c : Channel) : quietSample x q c =
    { c with
      quietRun := c.quietRun + 1, quietArea := c.quietArea + (max q 0).toNat
      quietSat := c.quietSat || decide (x = 4095) } := by
  have : (max q 0).toNat = q.toNat := by omega
  rw [this]
  rfl

/-- The largest excess of a sample in range is that of a full sample over an empty baseline (R5, R16). -/
theorem excess_toNat_le {x inj b : Nat} (hx : x ≤ 4095) (hi : inj ≤ 1024) : (excess x inj b).toNat ≤ maxArea := by
  unfold excess maxArea
  omega

/-- No sample takes the area outside its range (R8). -/
theorem sampleChannel_area_le (e : ChannelEntry) (m : Nat) (now : Time) {x inj : Nat} {c : Channel} (hx : x ≤ 4095)
    (hi : inj ≤ 1024) (ha : c.area ≤ maxArea) : (sampleChannel e m now x inj c).area ≤ maxArea := by
  cases hs : c.state with
  | off => rwa [sampleChannel_off_eq e m now x inj hs]
  | settling => rwa [sampleChannel_settling e m now x inj hs]
  | idle =>
    rw [sampleChannel_idle e m now x inj hs]
    split
    · exact excess_toNat_le hx hi
    · exact ha
  | inHit =>
    rw [sampleChannel_inHit e m now x inj hs]
    split
    · exact ha
    · rw [loudSample_eq]
      exact Nat.min_le_right ..
  | held => rwa [sampleChannel_held e m now x inj hs]

/-- A baseline that moves toward a sample stays in the range of both (R4, R5). -/
theorem track_le {d x b : Nat} (hd : 0 < d) (hx : x ≤ 4095) (hb : b ≤ 65535) : track d x b ≤ 65535 := by
  unfold track
  have hd' : (0 : Int) < d := by omega
  rcases le_total (0 : Int) (16 * x - b) with up | down
  · have := Int.tdiv_le_self d up
    omega
  · have := Int.tdiv_nonneg (Int.neg_nonneg.mpr down) hd'.le
    rw [Int.neg_tdiv] at this
    omega

/-- No sample takes B outside its range (R5). -/
theorem sampleChannel_baseline_le (e : ChannelEntry) (m : Nat) (now : Time) {x : Nat} (inj : Nat) {c : Channel}
    (hx : x ≤ 4095) (hb : c.baseline ≤ 65535) : (sampleChannel e m now x inj c).baseline ≤ 65535 := by
  cases hs : c.state with
  | off => rwa [sampleChannel_off_eq e m now x inj hs]
  | settling =>
    rw [sampleChannel_settling e m now x inj hs]
    dsimp only
    split
    · exact track_le (by decide) hx hb
    · omega
  | idle =>
    rw [sampleChannel_idle e m now x inj hs]
    split
    · exact hb
    · exact track_le (by decide) hx hb
  | inHit =>
    rw [sampleChannel_inHit e m now x inj hs]
    split
    · exact hb
    · exact hb
  | held => rwa [sampleChannel_held e m now x inj hs]

/-! ### The thresholds (R6) -/

theorem startThreshold_eq {e : ChannelEntry} (h : e.coarse ≤ 3) :
    startThreshold e = ((24 * 2 ^ e.coarse + 2 * e.fine : Nat) : Int) := by
  unfold startThreshold
  generalize e.coarse = k at h ⊢
  interval_cases k <;> simp

/-- Settles O8: the equation of each state, the thresholds of R6, and the ranges that follow. -/
theorem channelHandlesSample : Obligations.ChannelHandlesSample := by
  refine ⟨fun e m now x inj c => ⟨?_, ?_, ?_, ?_, ?_⟩, fun e m now x inj c => ?_, fun e he => ⟨?_, ?_, ?_⟩,
    fun e m now x inj c hx hi hb ha => ?_⟩
  · exact sampleChannel_off_eq e m now x inj
  · exact sampleChannel_settling e m now x inj
  · intro h hq
    rw [sampleChannel_idle e m now x inj h, if_pos (by exact hq)]
    rfl
  · intro h hq
    rw [sampleChannel_idle e m now x inj h, if_neg (by exact not_le.mpr hq)]
    rfl
  · exact sampleChannel_held e m now x inj
  · dsimp only
    intro h ha
    rw [sampleChannel_inHit e m now x inj h]
    refine ⟨fun hq => ?_, fun hq => ?_⟩
    · rw [if_pos (by exact hq), quietSample_eq]
      rfl
    · rw [if_neg (by exact not_lt.mpr hq), loudSample_eq]
      rfl
  · exact startThreshold_eq he
  · rw [endLevel, startThreshold_eq he]
    omega
  · intro hf
    rw [endLevel, startThreshold_eq he]
    have pow : 2 ^ e.coarse = 1 ∨ 2 ^ e.coarse = 2 ∨ 2 ^ e.coarse = 4 ∨ 2 ^ e.coarse = 8 := by
      generalize e.coarse = k at he ⊢
      interval_cases k <;> simp
    omega
  · exact ⟨sampleChannel_baseline_le e m now inj hx hb, sampleChannel_area_le e m now hx hi ha⟩

end Sys2Proof.Machine
end

section
/-! Strip events and the site second on a live device: O9, O10 and O11. -/

namespace Sys2Proof.Machine

/-! ### Events whose condition holds -/

/-- A device event on a live device whose condition holds has its effect. -/
theorem onLive_whenever {s : State} (h : Live s) {b : State → Bool} {f : State → State} (hb : b s = true) :
    onLive (fun s => whenever (b s) f s) s = .next (f s) := by
  rw [onLive_live h, hb]
  rfl

/-! ### The place of a hit (R20) -/

theorem insertHit_split (h : PoolHit) (q : List PoolHit) : ∃ before after, q = before ++ after ∧
    insertHit h q = before ++ h :: after ∧ (∀ k ∈ before, standsBefore h k = false) ∧
    ∀ k, after.head? = some k → standsBefore h k = true := by
  induction q with
  | nil => exact ⟨[], [], rfl, rfl, by simp, by simp⟩
  | cons y ys ih =>
    by_cases hy : standsBefore h y = true
    · exact ⟨[], y :: ys, rfl, by simp [insertHit, hy], by simp, by simpa⟩
    · obtain ⟨before, after, rfl, e, hb, ha⟩ := ih
      refine ⟨y :: before, after, rfl, by simp [insertHit, hy, e], ?_, ha⟩
      simpa [hy] using hb

/-- Settles O9: each event's condition holds, so its effect is that of its rule. -/
theorem channelStateEvents : Obligations.ChannelStateEvents := by
  refine ⟨fun s id live => ⟨fun hs hn => ?_, fun hs hn => ?_⟩, fun s id live hs ho => ?_⟩
  · exact onLive_whenever live (b := fun s => settlingDone (s.channel id)) (f := settlingCompletes id)
      (decide_eq_true ⟨hs, hn⟩)
  · exact onLive_whenever live (b := fun s => holdDone (s.channel id)) (f := holdEnds id) (decide_eq_true ⟨hs, hn⟩)
  · have effect := onLive_whenever live (b := fun s => hitTooLong (s.channel id)) (f := hitOverruns id)
      (decide_eq_true ⟨hs, ho⟩)
    rw [hitOverruns, raiseAll_eq_raised] at effect
    exact effect

theorem hitEnd_live {s : State} {id : ChannelId} (live : Live s) (hs : (s.channel id).state = .inHit)
    (hq : 8 ≤ (s.channel id).quietRun) : exec (.hitEnd id) s = .next (noteEmptied (hitEnds id s)) :=
  onLive_whenever live (b := fun s => hitDone (s.channel id)) (f := fun s => noteEmptied (hitEnds id s))
    (decide_eq_true ⟨hs, hq⟩)

/-- Settles O10: the hit's duration decides between the noise count and the pool, and the pool's size whether its first
hit decides. -/
theorem hitEndActs : Obligations.HitEndActs := by
  refine ⟨fun s id live inv hs hq hd => ?_, fun s id live inv => ?_⟩
  · rw [hitEnd_live live hs hq, hitEnds, if_pos (by exact hd)]
    exact congrArg _ (noteEmptied_quiet (by exact inv))
  · intro c dur h u ahead hs hq hd
    have ends : hitEnds id s = joinPool h u := if_neg (by exact not_le.mpr hd)
    have stands (k : PoolHit) : standsBefore h k = true ↔ ahead k := decide_eq_true_iff
    obtain ⟨before, after, pool, inserted, hb, ha⟩ := insertHit_split h (s.pool id.lane id.row)
    refine ⟨before, after, pool, fun k hk => ?_, fun k hk => (stands k).mp (ha k hk), fun room => ?_, fun full k hk => ?_⟩
    · rw [← stands, hb k hk]
      simp
    · have joined : joinPool h u = u.withPool id.lane id.row (before ++ h :: after) := by
        rw [← inserted]
        exact if_neg fun full => absurd (of_decide_eq_true full) (by exact not_le.mpr room)
      rw [hitEnd_live live hs hq, ends, joined]
      exact congrArg _ (noteEmptied_quiet (by exact inv))
    · have joined : joinPool h u = decideHit k (u.withPool id.lane id.row (before ++ h :: after)) := by
        have hf : decide (8 ≤ (u.pool h.channel.lane h.channel.row).length) = true := decide_eq_true full
        have hu : u.pool h.channel.lane h.channel.row = s.pool id.lane id.row := rfl
        unfold joinPool
        dsimp only
        rw [if_pos hf, hu, inserted]
        cases before with
        | nil =>
          cases hk
          rfl
        | cons y ys =>
          cases hk
          rfl
      rw [hitEnd_live live hs hq, ends, joined]

/-- Settles O11: the second's effect, and FAULT where a reading of the probes sets it. -/
theorem siteSecondActs : Obligations.SiteSecondActs := by
  intro s live due read probes u
  have second : exec .siteSecond s = .next (secondPasses s) :=
    onLive_whenever live (b := fun s => s.clock.secondDue) (f := secondPasses) due
  have passes : secondPasses s = if Ix4.all.any fun i => ((probesRead s).get i).2 then raiseAll Notice.fault u else u := rfl
  have reading (i : ProbeId) : (probesRead s).get i = read i := Quad.get_of ..
  have any : (Ix4.all.any fun i => ((probesRead s).get i).2) = true ↔ ∃ i, (read i).2 = true := by
    simp [List.any_eq_true, Ix4.mem_all, reading]
  rw [second, passes]
  refine ⟨fun h => ?_, fun h => ?_⟩
  · rw [if_pos (any.mpr h), raiseAll_eq_raised]
  · rw [if_neg]
    rw [any]
    simp [h]

end Sys2Proof.Machine
end

section
/-! The sample tick with nothing else due (R1, R2, R16, R188): O6. -/

namespace Sys2Proof.Machine

/-! ### Nothing due -/

theorem deviceDue_of_quiet {s : State} (h : dueNow s = false) : deviceDue s = false := by
  simp only [dueNow, Bool.or_eq_false_iff] at h
  exact h.1.1.1

theorem live_of_quiet {s : State} (hp : s.powered = true) (h : dueNow s = false) : Live s := by
  have := deviceDue_of_quiet h
  simp only [deviceDue, Bool.or_eq_false_iff] at this
  obtain ⟨⟨⟨⟨⟨⟨⟨⟨⟨activation, -⟩, restart⟩, -⟩, -⟩, -⟩, -⟩, -⟩, -⟩, -⟩ := this
  exact ⟨hp, activation, restart⟩

theorem secondDue_of_quiet {s : State} (h : dueNow s = false) : s.clock.secondDue = false := by
  have := deviceDue_of_quiet h
  simp only [deviceDue, Bool.or_eq_false_iff] at this
  obtain ⟨⟨⟨⟨⟨⟨⟨⟨⟨-, -⟩, -⟩, second⟩, -⟩, -⟩, -⟩, -⟩, -⟩, -⟩ := this
  exact second

theorem restartEdge_of_quiet {s : State} (h : dueNow s = false) : s.pins.restartEdge = false := by
  have := deviceDue_of_quiet h
  simp only [deviceDue, Bool.or_eq_false_iff] at this
  exact this.2

theorem settleDue_of_quiet {s : State} (h : dueNow s = false) : settleDue s = s := by
  rw [settleDue, h]
  rfl

/-! ### The tick -/

theorem advance_started {c : Clock} (hs : c.started = true) (hd : c.secondDue = false) : c.advance =
    ⟨c.now + 1, c.seconds, if c.tick < 16383 then c.tick + 1 else 0, decide (16383 ≤ c.tick), true⟩ := by
  obtain ⟨now, seconds, tick, secondDue, started⟩ := c
  subst hs hd
  by_cases ht : tick < 16383
  · simp [Clock.advance, ht]
  · simp [Clock.advance, ht, not_lt.mp ht]

theorem advance_first {c : Clock} (hs : c.started = false) : c.advance = { c with started := true } := by
  rw [Clock.advance, if_pos hs]

theorem readPins_quiet {x : Pins} (h : x.restartEdge = false) (inputs : Inputs) : readPins inputs x =
    ⟨inputs.presence, inputs.probes, inputs.restartHigh, x.restartHigh && !inputs.restartHigh⟩ := by
  rw [readPins, h, Bool.false_or]

theorem takeTick_channel (inputs : Inputs) (s : State) (c : ChannelId) : (takeTick inputs s).channel c =
    sampleChannel (s.set.channels.chan c) s.set.site.maxHit (takeTick inputs s).now (inputs.samples.chan c).toNat
      (injectedExcess s (takeTick inputs s).now c) (s.channel c) := by
  rw [takeTick_eq]
  exact State.channel_withChannels ..

/-! ### The frames that completed earlier (R188) -/

/-- A frame that completes after the first sample tick: taken, held, or dropped as an overrun (R170, R174). -/
theorem serve_of_started {s : State} (h : s.clock.started = true) (p : PortId) (f : Frame) : serve p f s =
    if (s.port p).role = .disabled then s
    else if (s.port p).tx = .idle then answered p f.code f.tag (dispatch p f s).2 (dispatch p f s).1
    else if (s.port p).buffer = none then s.withPort p { s.port p with buffer := some f }
    else s.withPort p { s.port p with overruns := (s.port p).overruns + 1 } := by
  unfold serve State.disabled
  cases htx : (s.port p).tx <;> cases hb : (s.port p).buffer <;> simp [h, htx, hb, takeFrame_eq]

/-- Two ways to serve that agree once the first sample tick is taken serve a list of frames alike. -/
theorem foldl_serve {served : State → PortId × Frame → State}
    (h : ∀ u x, u.clock.started = true → settleUrgent (serve x.1 x.2 u) = served u x) (fs : List (PortId × Frame))
    (u : State) (hu : u.clock.started = true) :
    fs.foldl (fun s f => settleUrgent (serve f.1 f.2 s)) u = fs.foldl served u := by
  induction fs generalizing u with
  | nil => rfl
  | cons x fs ih =>
    rw [List.foldl_cons, List.foldl_cons, ih _ (by rw [settleUrgent_clock, serve_started, hu]), h u x hu]

/-- Settles O6: with nothing due the tick is the clocks, the inputs and the samples; the first one then serves the frames
that completed before it. -/
theorem sampleTickActs : Obligations.SampleTickActs := by
  refine ⟨fun inputs s hp hs hd => ?_, fun inputs s hp hs hd => ?_⟩
  · have tick : exec (.sampleTick inputs) s = .next (takeTick inputs s) := by
      refine (onLive_live (live_of_quiet hp hd) _).trans (congrArg _ ?_)
      rw [sampleTick, settleDue_of_quiet hd]
      exact if_pos hs
    exact ⟨takeTick inputs s, tick, advance_started hs (secondDue_of_quiet hd), readPins_quiet (restartEdge_of_quiet hd) _,
      takeTick_channel inputs s, rfl⟩
  · intro served
    have tick : exec (.sampleTick inputs) s = .next (serveEarly (takeTick inputs s)) := by
      refine (onLive_live (live_of_quiet hp hd) _).trans (congrArg _ ?_)
      rw [sampleTick, settleDue_of_quiet hd]
      exact if_neg (by simp [hs])
    have clock : (takeTick inputs s).clock = { s.clock with started := true } := advance_first hs
    have now : (takeTick inputs s).now = s.now := by rw [State.now, clock]; rfl
    refine ⟨{ takeTick inputs s with early := [] }, ?_, readPins_quiet (restartEdge_of_quiet hd) _, fun c => ?_, ?_⟩
    · rw [tick]
      refine congrArg _ (foldl_serve (fun u x hu => ?_) s.early _ (by rw [clock]))
      exact congrArg settleUrgent (serve_of_started hu x.1 x.2)
    · rw [← now]
      exact takeTick_channel inputs s c
    · rw [← clock]
      rfl

end Sys2Proof.Machine
end

section
/-! The injection test (R16, R17, R162, R164 to R166): its schedule and its completion, O50 and O51. -/

namespace Sys2Proof.Machine

/-! ### The schedule -/

theorem reached_eq_false {now t : Time} : reached now t = false ↔ timeDiff now t < 0 := by
  rw [reached, decide_eq_false_iff_not, not_le]

theorem excessAt_eq (x : TestContext) (now : Time) (r : Row) : x.excessAt now r =
    if x.rowAStarts.any fun a =>
      decide ((now - (a + BitVec.ofNat 32 (match r with | .a => 0 | .b => x.rowBOffset))).toNat < x.pulseLength)
    then x.amplitude else 0 := by
  cases r with
  | a =>
    have start (a : Time) : a + BitVec.ofNat 32 0 = a := BitVec.add_zero a
    simp only [start]
    rfl
  | b => simp [TestContext.excessAt, TestContext.starts, elapsed, later, List.any_map, Function.comp_def]

theorem phaseAt_lead {x : TestContext} {now : Time} (h : timeDiff now x.startTime < 0) : x.phaseAt now = .lead := by
  rw [TestContext.phaseAt, if_pos (reached_eq_false.mpr h)]

theorem phaseAt_started {x : TestContext} {now : Time} (h : 0 ≤ timeDiff now x.startTime) : x.phaseAt now =
    if timeDiff now x.lastEnd < 0 then .injecting else .draining := by
  rw [TestContext.phaseAt, if_neg (by rw [reached_eq_false]; omega)]
  simp only [reached_eq_false]

theorem phaseAt_draining (x : TestContext) (now : Time) :
    x.phaseAt now = .draining ↔ 0 ≤ timeDiff now x.startTime ∧ 0 ≤ timeDiff now x.lastEnd := by
  by_cases hs : timeDiff now x.startTime < 0
  · simp only [phaseAt_lead hs, reduceCtorEq, false_iff]
    omega
  · rw [phaseAt_started (not_lt.mp hs)]
    split <;> simp_all

/-- Settles O50: the excess and the phase are those of the schedule at the present tick. -/
theorem injectionFollowsSchedule : Obligations.InjectionFollowsSchedule := by
  intro s x hx pulse amount
  have amount_eq (now : Time) (r : Row) : x.excessAt now r = amount now r := by
    rw [excessAt_eq]
    cases r <;> rfl
  refine ⟨fun now c => ?_, fun live => ⟨x.phaseAt s.now, ?_⟩⟩
  · rw [injectedExcess, hx, ← amount_eq]
  · intro x'
    refine ⟨?_, phaseAt_lead, fun last hl hs => ?_⟩
    · have pulsed : x.pulseAt s.now = x' := by rw [TestContext.pulseAt, amount_eq, amount_eq]
      refine (onLive_live live eventInjection).trans (congrArg _ ?_)
      rw [eventInjection, hx]
      dsimp only
      rw [pulsed]
    · rw [phaseAt_started hs, TestContext.lastEnd, hl]
      rfl

/-! ### Completion -/

theorem healthOf_good (r : Nat) : healthOf r = .good ↔ 875 ≤ r ∧ r ≤ 1125 := by
  unfold healthOf
  split <;> simp_all

/-- What a channel of the test lane holds once the test has ended (R17, R162, R165). -/
def testedChannel (ratio : Nat) (discards : Bool) (c : Channel) : Channel :=
  { (if discards then discardHit c else c) with health := healthOf ratio, ratio := some ratio }

theorem testedChannel_eq (ratio : Nat) (discards : Bool) (c : Channel) : testedChannel ratio discards c =
    { (if c.state = .inHit ∧ discards = true then { c.clearHit with state := .idle } else c) with
      health := if 875 ≤ ratio ∧ ratio ≤ 1125 then .good else .suspect, ratio := some ratio } := by
  by_cases hc : c.state = .inHit <;> cases discards <;> simp [testedChannel, discardHit, hc, healthOf, Channel.toIdle]

theorem discardHit_health (h : Health) (r : Option Nat) (c : Channel) :
    discardHit { c with health := h, ratio := r } = { discardHit c with health := h, ratio := r } := by
  unfold discardHit
  split <;> simp_all [Channel.toIdle, Channel.clearHit]

/-- The test ends: its four parts, said at once (R162, R164, R165). -/
theorem completeTest_eq (x : TestContext) (ratio : ChannelId → Nat) (record : Option Seq) (s : State) :
    completeTest x ratio record s =
      let good := x.lane.channels.all fun c => decide (healthOf (ratio c) = .good)
      raised (if good then Notice.maint else Notice.maint ||| Notice.fault)
        (((s.withChannels fun c => if c.lane = x.lane then
            testedChannel (ratio c) (decide (x.phaseAt s.now ≠ .draining)) (s.channel c) else s.channel c).withResult
          ⟨x.lane, x.pattern, if good then .passed else .suspect, s.siteClock, some (x.lane.channels.map ratio), record⟩
          ).withMode x.lane .opened) := by
  have channels : (if x.phaseAt (setHealth ratio x.lane s).now = .draining then setHealth ratio x.lane s
      else forLaneChannels discardHit x.lane (setHealth ratio x.lane s)) =
      s.withChannels fun c => if c.lane = x.lane then
        testedChannel (ratio c) (decide (x.phaseAt s.now ≠ .draining)) (s.channel c) else s.channel c := by
    rw [forLaneChannels_eq, setHealth_eq]
    show (if x.phaseAt s.now = .draining then _ else _) = _
    split
    · simp [testedChannel, *]
    · simp only [State.withChannels_withChannels, State.channel_withChannels]
      congr 1
      funext c
      split
      · simp [testedChannel, discardHit_health, *]
      · rfl
  unfold completeTest
  dsimp only
  have good : (x.lane.channels.map ratio).all (fun r => decide (healthOf r = .good)) =
      x.lane.channels.all fun c => decide (healthOf (ratio c) = .good) := List.all_map
  rw [channels, good]
  simp only [raiseAll_eq_raised]
  generalize x.lane.channels.all (fun c => decide (healthOf (ratio c) = .good)) = passed
  cases passed <;> rfl

theorem CommitInv.of_blocks {s t : State} (h : CommitInv s) (cc : t.cc = s.cc := by simp) (va : t.va = s.va := by simp) :
    CommitInv t := by
  have empty : allEmpty t = allEmpty s := by unfold allEmpty State.context; rw [va]
  rw [CommitInv, cc, empty]
  exact h

/-- Settles O51. -/
theorem testCompletes : Obligations.TestCompletes := by
  refine ⟨fun x axles c hn => rfl, fun s x ratio record => ?_, fun s x live inv hx hr => ⟨fun ho => ?_, fun ho => ?_⟩⟩
  · intro good all draining t
    have ht : t = _ := completeTest_eq x ratio record s
    have goods (c : ChannelId) : decide (healthOf (ratio c) = .good) = good c := by
      simp only [healthOf_good]
      rfl
    have drains : x.phaseAt s.now = .draining ↔ draining := phaseAt_draining x s.now
    simp only [goods] at ht
    refine ⟨?_, fun c => ?_, ?_, ?_⟩
    · rw [ht]
      rfl
    · rw [ht]
      show (s.withChannels _).channel c = _
      rw [State.channel_withChannels]
      split
      · rw [testedChannel_eq]
        simp only [drains, decide_not, Bool.not_eq_true', decide_eq_false_iff_not]
        simp only [good, decide_eq_true_eq]
      · rfl
    · rw [ht]
      rfl
    · rw [ht]
      rfl
  · refine (onLive_live live eventTestExpiry).trans (congrArg _ ?_)
    have due : testDue s = some x := by
      rw [testDue, hx]
      exact if_pos ⟨hr, ho⟩
    rw [eventTestExpiry, due]
    exact noteEmptied_quiet inv.of_blocks
  · refine (onLive_live live eventTestExpiry).trans (congrArg _ ?_)
    have due : testDue s = none := by
      rw [testDue, hx]
      exact if_neg (by simp [ho])
    rw [eventTestExpiry, due]

end Sys2Proof.Machine
end

section
/-! STATUS, COUNTERS, CLEAR_COUNTERS, SET_CLOCK and CHANNEL_RESUME at a port that takes them at once (R2, R13, R177 to
R179): O59. -/

namespace Sys2Proof.Machine

/-! ### A command taken at once -/

/-- A port command's row, where its frame is taken at once and its role and length fit: the command acts and answers. -/
theorem arrives_open {p : PortId} {s : State} (h : Taking p s) (f : Frame) {c : CommandId} (hc : commandOf f.code = some c)
    (hm : maintenanceOnly c = false) (hl : lengthFits c f.payload = true) : onLive (frameArrives p f) s =
      .next (answered p f.code f.tag (runCommand p f.payload s c).2 (runCommand p f.payload s c).1) := by
  rw [onLive_live h.1, frameArrives_taking h, dispatch_open h f hc hm hl]

theorem arrives_any {p : PortId} {s : State} (h : TakingAny p s) (f : Frame) {c : CommandId}
    (hc : commandOf f.code = some c) (hl : lengthFits c f.payload = true) : onLive (frameArrives p f) s =
      .next (answered p f.code f.tag (runCommand p f.payload s c).2 (runCommand p f.payload s c).1) := by
  rw [onLive_live h.1.1, frameArrives_taking h.1, dispatch_any h f hc hl]

/-! ### Channel indices (00_scope.md 4.2) -/

theorem channelOfIndex_channelIndex (c : ChannelId) : channelOfIndex (channelIndex c) = some c := by
  obtain ⟨l, r, x⟩ := c
  cases l <;> cases r <;> cases x <;> rfl

theorem channelOfIndex_none {n : Nat} (h : 16 ≤ n) : channelOfIndex n = none := by
  have h4 : 4 ≤ n / 4 := by omega
  have lane : ix4OfIndex (n / 4) = none := by
    generalize n / 4 = k at h4
    unfold ix4OfIndex
    split
    case h_5 => rfl
    all_goals omega
  rw [channelOfIndex, lane, Option.map_none]

/-! ### CHANNEL_RESUME -/

theorem doChannelResume_range {b : Byte} (h : 16 ≤ b.toNat) (s : State) : doChannelResume [b] s = (s, ⟨.range, []⟩) := by
  have : channelOfIndex (byteAt [b] 0) = none := channelOfIndex_none h
  rw [doChannelResume, this]
  rfl

theorem doChannelResume_channel {b : Byte} {c : ChannelId} (h : channelIndex c = b.toNat) (s : State) :
    doChannelResume [b] s =
      let t := if (s.channel c).state = .held then holdEnds c s else s
      (t, ⟨.ok, choiceByte (channelCode (t.channel c).state)⟩) := by
  have : channelOfIndex (byteAt [b] 0) = some c := by
    rw [← channelOfIndex_channelIndex c, h]
    rfl
  rw [doChannelResume, this]

/-- Settles O59: each command taken at once, by its effect and reply. -/
theorem statusCountersClockResume : Obligations.StatusCountersClockResume := by
  refine ⟨fun s p tag h => ⟨?_, ?_⟩, fun s p tag h => ⟨⟨s.zeroLaneCounters, ?_, fun l => ?_, rfl⟩, fun x => ?_,
      fun b => ⟨fun hb => ?_, fun c hc => ?_⟩⟩⟩
  · exact arrives_open h ⟨0x01, tag, []⟩ (c := .status) rfl rfl rfl
  · exact arrives_open h ⟨0x02, tag, []⟩ (c := .counters) rfl rfl rfl
  · exact arrives_any h ⟨0x03, tag, []⟩ (c := .clearCounters) rfl rfl
  · simp [laneCounters, State.zeroLaneCounters]
  · have set := arrives_any h ⟨0x33, tag, bytesLE 4 x.toNat⟩ (c := .setClock) rfl rfl
    simp only [runCommand, doSetClock, wordAt_bytes] at set
    exact set
  · have resume := arrives_any h ⟨0x32, tag, [b]⟩ (c := .channelResume) rfl rfl
    simp only [runCommand, doChannelResume_range hb] at resume
    exact resume
  · have resume := arrives_any h ⟨0x32, tag, [b]⟩ (c := .channelResume) rfl rfl
    simp only [runCommand, doChannelResume_channel hc] at resume
    refine ⟨fun held => ?_, fun other => ?_⟩
    · rw [if_pos held, holdEnds, State.channel_withChannel_self] at resume
      exact resume
    · rw [if_neg other] at resume
      exact resume

end Sys2Proof.Machine
end

section
/-! The activation (R74, R92): O44. -/

namespace Sys2Proof.Machine

/-- The Calibration Controller after an activation (R152, R154). -/
theorem activate_cc (s : State) : (activate s).cc =
    { s.cc with
      active := s.cc.edits, revision := s.cc.revision + 1, claim := none, claimExpiry := none, waiting := false,
      commitExpiry := none, activationDue := false, activationNear := false, persist := some s.now
      store := { s.cc.store with mark := false } } := by
  simp [activate, adoptEdits, endCommit, startPersist, State.now]

/-- ACTIVATION where the moment of R151 has come, and no restart with it. -/
theorem exec_activation_due {s : State} (powered : s.powered = true) (due : s.cc.activationDue = true)
    (restart : s.cc.restartDue = false) : exec .activation s = .next (activate s) := by
  have urgent : settleUrgent s = activate s := by simp [settleUrgent, due, activate_cc, restart]
  have settled : eventActivation (activate s) = activate s := by simp [eventActivation, activate_cc, whenever_false]
  show Host.Outcome.next (if s.powered then eventActivation (settleUrgent s) else s) = _
  rw [if_pos powered, urgent, settled]

/-- Refutes O44. The statement reads the mode of a lane before the activation, and carries no lane invariant; the model
reads it after the TIMEOUT closures. In the state below L1 is CLOSED, yet a test runs on it and a vehicle stands in its
context for longer than the max duration: the TIMEOUT completes the test, which opens the lane (R165), and the change of its
presence polarity then re-reads it (R74), so that it becomes occupied. The statement, for which a lane CLOSED at first is not
re-read, has it as it was. No run from reset comes to such a state (`lanesStayConsistent`): the statement lacks the premise
`LaneInv`, and no fault of the activation is shown. -/
theorem not_activationTakesEffect : ¬ Obligations.ActivationTakesEffect := by
  intro h
  let axle : Axle := ⟨0, 10000, none, some 500, some 500, 1000, 0, [], []⟩
  let test : TestContext :=
    { lane := .one, pattern := 0, axleCount := 2, spacings := [300], amplitude := 400, speed := 10000, pulseLength := 328,
      rowBOffset := 4915, startTime := 0, rowAStarts := [0, 4915], expiry := 30000, phase := .draining,
      vehicleOpened := true, supplied := ⟨0, 0⟩ }
  let s : State :=
    { State.reset with
      clock := ⟨400000, 24, 6784, false, true⟩
      va := { initialVa with contexts := initialVa.contexts.set .one { emptyContext with state := .opened, axles := [axle] } }
      cc := { State.reset.cc with
        edits := { builtIn with
          lanes := builtIn.lanes.set .one { defaultLane .one with presencePolarity := .activeLow } }
        activationDue := true }
      ltg := ⟨(Quad.all .opened).set .one .closed, some test, none⟩ }
  have unread : ¬(s.mode .one ≠ .closed ∧
      (s.set.lanes.get .one).presencePolarity ≠ (s.cc.edits.lanes.get .one).presencePolarity) := fun e => e.1 rfl
  have rereads : (activate s).va.occupied.get .one = some 400000 := by decide +kernel
  obtain ⟨t, activates, -, -, -, -, -, -, -, -, -, lanes⟩ := h.1 s rfl (.inl rfl) rfl
  obtain ⟨same, -⟩ := lanes .one
  have occupied : t.va.occupied.get .one = none := same (.inl unread)
  rw [exec_activation_due rfl rfl rfl] at activates
  injection activates with e
  rw [← e, rereads] at occupied
  cases occupied

end Sys2Proof.Machine
end

section
/-! The restart (R156, R186, R187): its requests and its effect, O47. -/

namespace Sys2Proof.Machine

/-! ### Requests -/

theorem requestRestart_idle {s : State} (h : s.cc.persist = none) :
    requestRestart s = { s with cc := { s.cc with restartDue := true } } := by
  simp [requestRestart, h]

theorem requestRestart_busy {s : State} (h : s.cc.persist.isSome = true) :
    requestRestart s = { s with cc := { s.cc with restartPending := true } } := if_pos h

/-- RESTART without a persist: it is taken (R186). -/
theorem doRestart_idle {s : State} (h : s.cc.persist = none) :
    doRestart s = ({ s with cc := { s.cc with restartDue := true } }, ⟨.ok, [0]⟩) := by
  have taken : s.cc.persist.isSome = false := by simp [h]
  rw [doRestart, requestRestart_idle h, taken]
  rfl

/-- RESTART behind a persist: it is pending (R186). -/
theorem doRestart_busy {s : State} (h : s.cc.persist.isSome = true) :
    doRestart s = ({ s with cc := { s.cc with restartPending := true } }, ⟨.ok, [1]⟩) := by
  rw [doRestart, requestRestart_busy h, h]
  rfl

/-- A restart input that reads low and holds no edge stays as it is when it is moved low. -/
theorem lowered_low {x : Pins} (edge : x.restartEdge = false) (high : x.restartHigh = false) :
    ({ x with restartHigh := false, restartEdge := x.restartEdge || x.restartHigh } : Pins) = x := by
  cases x
  simp_all

/-- RESTART_INPUT moves its input, and requests a restart where that is an edge or one is held (R186). -/
theorem exec_restartInput {s : State} (live : Live s) : exec .restartInput s =
    .next (if s.pins.restartEdge = true ∨ s.pins.restartHigh = true
      then requestRestart { s with pins := { s.pins with restartHigh := false, restartEdge := false } } else s) := by
  have live_eq : exec .restartInput s = execRestartInput s := rfl
  rw [live_eq, execRestartInput, onLive_live live]
  congr 1
  dsimp only
  by_cases h : s.pins.restartEdge = true ∨ s.pins.restartHigh = true
  · have edge : (s.pins.restartEdge || s.pins.restartHigh) = true := by simpa using h
    rw [if_pos h, edge]
    rfl
  · rw [if_neg h]
    rw [not_or, Bool.not_eq_true, Bool.not_eq_true] at h
    rw [lowered_low h.1 h.2, eventRestartInput, h.1]
    rfl

/-! ### Lanes in turn -/

/-- Where lanes are taken in turn, and what a lane shows is changed at its own turn only, it shows at the end what it shows
after that turn. -/
theorem foldl_lanes {β : Type} {f : State → Lane → State} {I : State → Prop} {view : State → β} {l : Lane}
    (keeps : ∀ u l', I u → I (f u l')) (other : ∀ u l', I u → l' ≠ l → view (f u l') = view u) {s : State} (hs : I s) :
    ∃ u, I u ∧ view u = view s ∧ view (Ix4.all.foldl f s) = view (f u l) := by
  have others (ls : List Lane) (hl : l ∉ ls) (u : State) (hu : I u) : I (ls.foldl f u) ∧ view (ls.foldl f u) = view u := by
    induction ls generalizing u with
    | nil => exact ⟨hu, rfl⟩
    | cons l' ls ih =>
      rw [List.mem_cons, not_or] at hl
      obtain ⟨kept, same⟩ := ih hl.2 (f u l') (keeps u l' hu)
      exact ⟨kept, same.trans (other u l' hu (Ne.symm hl.1))⟩
  obtain ⟨before, after, all, hb, ha⟩ : ∃ before after, Ix4.all = before ++ l :: after ∧ l ∉ before ∧ l ∉ after := by
    cases l
    · exact ⟨[], [.two, .three, .four], by decide⟩
    · exact ⟨[.one], [.three, .four], by decide⟩
    · exact ⟨[.one, .two], [.four], by decide⟩
    · exact ⟨[.one, .two, .three], [], by decide⟩
  obtain ⟨kept, same⟩ := others before hb s hs
  rw [all, List.foldl_append, List.foldl_cons]
  exact ⟨_, kept, same, (others after ha _ (keeps _ _ kept)).2⟩

/-! ### The presence re-read where no test runs (R74, R96) -/

theorem State.withContext_context (s : State) (l : Lane) : s.withContext l (s.context l) = s := by
  simp [State.withContext, State.context]

theorem State.withOccupied_same (s : State) (l : Lane) : s.withOccupied l (s.va.occupied.get l) = s := by
  simp [State.withOccupied]

/-- Without a test a re-read writes its lane's occupancy and context alone. -/
theorem rereadPresence_none {s : State} (test : s.ltg.test = none) (l : Lane) :
    ∃ o x, rereadPresence l s = (s.withOccupied l o).withContext l x := by
  unfold rereadPresence
  (repeat' split)
  · refine ⟨some s.now, ?_⟩
    unfold takeOccupied
    rw [abortTestOn_none test]
    dsimp only
    split
    · exact ⟨_, openVehicle_none (by exact test) l _⟩
    · exact ⟨_, rfl⟩
    · (repeat' split)
      · exact ⟨_, rfl⟩
      · exact ⟨_, rfl⟩
      · exact ⟨_, (State.withContext_context ..).symm⟩
  · refine ⟨none, ?_⟩
    unfold takeReleased
    dsimp only
    split
    · exact ⟨_, rfl⟩
    · exact ⟨_, (State.withContext_context ..).symm⟩
    · exact ⟨_, (State.withContext_context ..).symm⟩
  · exact ⟨s.va.occupied.get l, s.context l, by rw [State.withOccupied_same, State.withContext_context]⟩

/-- Without a test a re-read leaves every other lane's occupancy and context. -/
theorem rereadPresence_other {s : State} (test : s.ltg.test = none) {l l' : Lane} (h : l ≠ l') :
    ((rereadPresence l' s).va.occupied.get l, (rereadPresence l' s).context l) = (s.va.occupied.get l, s.context l) := by
  obtain ⟨o, x, e⟩ := rereadPresence_none test l'
  have occupied : ((s.withOccupied l' o).withContext l' x).va.occupied.get l = s.va.occupied.get l :=
    Quad.get_set_ne _ _ h
  have context : ((s.withOccupied l' o).withContext l' x).context l = s.context l := Quad.get_set_ne _ _ h
  rw [e, occupied, context]

/-- The context of a vehicle that presence opens at this tick (R83). -/
def openedNow (s : State) : Context :=
  { emptyContext with state := .opened, openTick := s.now, openTime := s.siteClock, presenceSeen := true }

/-- OCCUPIED on a lane whose context is EMPTY, with no test and no hold: a vehicle opens (R83). -/
theorem takeOccupied_idle {s : State} (test : s.ltg.test = none) {l : Lane} (empty : s.context l = emptyContext)
    (held : s.laneHeld l = false) :
    takeOccupied l s = (s.withOccupied l (some s.now)).withContext l (openedNow s) := by
  have opens : openByPresence l s.now s.siteClock (s.withOccupied l (some s.now)) =
      (s.withOccupied l (some s.now)).withContext l (openedNow s) := by
    have held' : (s.withOccupied l (some s.now)).laneHeld l = false := held
    unfold openByPresence
    rw [openVehicle_none (by exact test)]
    simp [State.isOccupied_withOccupied, held', openedNow, emptyContext]
  unfold takeOccupied
  rw [abortTestOn_none test]
  dsimp only
  rw [State.context_withOccupied, empty]
  exact opens

theorem takeReleased_idle {s : State} {l : Lane} (empty : s.context l = emptyContext) :
    takeReleased l s = s.withOccupied l none := by
  unfold takeReleased
  dsimp only
  rw [State.context_withOccupied, empty]
  rfl

theorem State.occupied_eq_none {s : State} {l : Lane} (h : s.isOccupied l = false) : s.va.occupied.get l = none := by
  simpa [State.isOccupied] using h

/-- What an EMPTY lane shows after a re-read with no test and no hold: a vehicle where an occupancy begins, else the
occupancy that the reading leaves. -/
theorem rereadPresence_idle {s : State} (test : s.ltg.test = none) {l : Lane} (empty : s.context l = emptyContext)
    (held : s.laneHeld l = false) :
    ((rereadPresence l s).va.occupied.get l, (rereadPresence l s).context l) =
      if s.readsOccupied l = true ∧ s.isOccupied l = false then (some s.now, openedNow s)
      else (if s.readsOccupied l = true then s.va.occupied.get l else none, emptyContext) := by
  unfold rereadPresence
  by_cases begins : s.readsOccupied l = true ∧ s.isOccupied l = false
  · rw [if_pos begins, if_pos begins, takeOccupied_idle test empty held, State.context_withContext_self]
    exact congrArg (·, _) (Quad.get_set_self ..)
  · rw [if_neg begins, if_neg begins]
    by_cases reads : s.readsOccupied l = true
    · rw [if_neg (by simp [reads]), if_pos reads, empty]
    · rw [if_neg reads]
      split
      · rw [takeReleased_idle empty, State.context_withOccupied, empty]
        simp [State.withOccupied]
      · rw [State.occupied_eq_none (by simp_all), empty]

/-! ### The restart's re-read of every lane -/

/-- The states that differ from one in contexts and occupancy alone. -/
def SameButPresence (s u : State) : Prop :=
  ∃ contexts occupied, u = { s with va := { s.va with contexts := contexts, occupied := occupied } }

theorem SameButPresence.reread {s u : State} (test : s.ltg.test = none) (h : SameButPresence s u) (l : Lane) :
    SameButPresence s (rereadPresence l u) := by
  obtain ⟨contexts, occupied, rfl⟩ := h
  obtain ⟨o, x, e⟩ := rereadPresence_none (s := { s with va := { s.va with contexts, occupied } }) test l
  exact ⟨_, _, e⟩

theorem rereadAll_same {s : State} (test : s.ltg.test = none) : SameButPresence s (rereadAll s) :=
  List.foldlRecOn _ _ ⟨_, _, rfl⟩ fun _ hu l _ => hu.reread test l

theorem laneHeld_restarted (s : State) (l : Lane) : (restarted s).laneHeld l = false := by
  have unheld (c : ChannelId) : ((restarted s).channel c).state ≠ .held := by
    rw [restarted_channel]
    split <;> nofun
  simp [State.laneHeld, unheld]

/-- Each lane after the restart's re-read, by its reading and its occupancy (R96). -/
theorem restarted_lane (s : State) (l : Lane) :
    ((rereadAll (restarted s)).va.occupied.get l, (rereadAll (restarted s)).context l) =
      if s.readsOccupied l = true ∧ s.isOccupied l = false then (some s.now, openedNow s)
      else (if s.readsOccupied l = true then s.va.occupied.get l else none, emptyContext) := by
  have test := restarted_test s
  obtain ⟨u, ⟨contexts, occupied, e⟩, view, result⟩ := foldl_lanes (f := fun u l => rereadPresence l u)
    (I := SameButPresence (restarted s)) (view := fun u => (u.va.occupied.get l, u.context l)) (l := l)
    (fun u l' hu => hu.reread test l')
    (fun u l' hu hl => rereadPresence_other (by obtain ⟨_, _, rfl⟩ := hu; exact test) hl.symm)
    (s := restarted s) ⟨_, _, rfl⟩
  obtain ⟨sameOccupied, sameContext⟩ := Prod.mk.inj view
  rw [restarted_context] at sameContext
  rw [restarted_occupied] at sameOccupied
  have testU : u.ltg.test = none := by rw [e]; exact test
  have held : u.laneHeld l = false := by rw [e]; exact laneHeld_restarted s l
  have now : u.now = s.now := by rw [e]; exact congrArg Clock.now (restarted_clock s)
  have siteClock : u.siteClock = s.siteClock := by
    have clock : u.clock = s.clock := by rw [e]; exact restarted_clock s
    rw [State.siteClock, clock, State.siteClock]
  have reads : u.readsOccupied l = s.readsOccupied l := by
    have pins : u.pins = s.pins := by rw [e]; exact restarted_pins s
    have set : u.set = s.set := by rw [e]; exact restarted_set s
    rw [State.readsOccupied, pins, set]
    rfl
  have occ : u.isOccupied l = s.isOccupied l := by rw [State.isOccupied, sameOccupied]; rfl
  refine result.trans ?_
  rw [rereadPresence_idle testU sameContext held, reads, occ, sameOccupied, now, openedNow, now, siteClock]
  rfl

/-! ### The blocks after a restart (R187) -/

section blocks
variable (s : State)

theorem restartDevice_sfe : (restartDevice s).sfe = (restarted s).sfe := by
  obtain ⟨_, _, e⟩ := rereadAll_same (restarted_test s)
  rw [restartDevice_eq, restartPn_sfe, e]

theorem restartDevice_xf : (restartDevice s).xf = (restarted s).xf := by
  obtain ⟨_, _, e⟩ := rereadAll_same (restarted_test s)
  rw [restartDevice_eq, restartPn_xf, e]

theorem restartDevice_ghosts : (restartDevice s).va.ghosts = (restarted s).va.ghosts := by
  obtain ⟨_, _, e⟩ := rereadAll_same (restarted_test s)
  rw [restartDevice_eq, restartPn_va, e]

theorem restartDevice_cle : (restartDevice s).cle = (restarted s).cle := by
  obtain ⟨_, _, e⟩ := rereadAll_same (restarted_test s)
  rw [restartDevice_eq, restartPn_cle, e]

theorem restartDevice_rr : (restartDevice s).rr = (restarted s).rr := by
  obtain ⟨_, _, e⟩ := rereadAll_same (restarted_test s)
  rw [restartDevice_eq, restartPn_rr, e]

theorem restartDevice_cc : (restartDevice s).cc =
    { s.cc with
      claim := none, claimExpiry := none, edits := s.cc.active, waiting := false, commitExpiry := none,
      activationDue := false, activationNear := false, restartPending := false, restartDue := false } := by
  obtain ⟨_, _, e⟩ := rereadAll_same (restarted_test s)
  rw [restartDevice_eq, restartPn_cc, e]
  simp [restarted, restartCc, revertEdits]

theorem restartDevice_ltg : (restartDevice s).ltg = (restartLtg s).ltg := by
  obtain ⟨_, _, e⟩ := rereadAll_same (restarted_test s)
  rw [restartDevice_eq, restartPn_ltg, e]
  simp [restarted, restartLtg, State.siteClock]

theorem laneCounters_restartDevice (l : Lane) : laneCounters (restartDevice s) l = [0, 0, 0, 0, 0, 0, 0] := by
  have committed : (restarted s).rr.committed = Quad.all 0 := by simp [restarted, restartRr]
  have ghosts : (restarted s).va.ghosts = Quad.all 0 := by simp [restarted, restartContexts]
  have xf : (restarted s).xf.orphanA = Quad.all 0 ∧ (restarted s).xf.orphanB = Quad.all 0 := by
    simp [restarted, restartXf]
  have sfe : (restarted s).sfe.noise = Quad.all 0 ∧ (restarted s).sfe.heldEntries = Quad.all 0 := by
    simp [restarted, restartSfe]
  have triggers : (restarted s).cle.counts = Quad.all 0 := by simp [restarted, restartCle]
  simp [laneCounters, restartDevice_rr, restartDevice_ghosts, restartDevice_xf, restartDevice_sfe, restartDevice_cle,
    committed, ghosts, xf, sfe, triggers]

theorem windows_restartDevice : (restartDevice s).xf.windows = s.xf.windows := by
  simp [restartDevice_xf, restarted, restartXf]

/-- The notices of a port that masks MAINT, and only of such a port, are none after a restart (R181, R187). -/
theorem maint_unmasked (mask : NoticeSet) : Notice.maint &&& ~~~mask ≠ 0 ↔ mask &&& Notice.maint = 0 := by
  revert mask
  decide

theorem port_restartDevice (p : PortId) : (restartDevice s).port p =
    if s.disabled p then s.port p else restartPort s.now (s.port p) := by
  obtain ⟨_, _, e⟩ := rereadAll_same (restarted_test s)
  have ports : (rereadAll (restarted s)).ports = s.ports := by rw [e]; exact restarted_ports s
  have now : (rereadAll (restarted s)).now = s.now := by rw [e]; exact congrArg Clock.now (restarted_clock s)
  rw [restartDevice_eq, State.port, restartPn, Tri.get_of, State.disabled, State.port, ports, now]
  rfl

/-- A port at a restart: a level port changes its set alone; a pulse port signals MAINT, or ends its pulse where it masks
MAINT (R187, log 19). -/
theorem restartPort_eq (now : Time) (p : Port) : restartPort now p =
    { p with
      frameErrors := 0, overruns := 0, flags := Notice.maint
      pulse := if p.lineMode ≠ .pulse then p.pulse else if p.mask &&& Notice.maint = 0 then some (now + 16#32) else none
      reminderExpiry := if p.lineMode ≠ .pulse then p.reminderExpiry
        else if p.mask &&& Notice.maint ≠ 0 then none
        else if p.reminder = true then some (now + 8192#32) else p.reminderExpiry } := by
  have unmasked := maint_unmasked p.mask
  unfold restartPort
  by_cases mode : p.lineMode = .pulse
  · by_cases masks : p.mask &&& Notice.maint = 0
    · refine (if_pos mode).trans ((if_pos (unmasked.2 masks)).trans ?_)
      simp only [startPulse, later, mode, masks, ne_eq, not_true_eq_false, if_false, if_true]
    · refine (if_pos mode).trans ((if_neg (mt unmasked.1 masks)).trans ?_)
      simp only [mode, masks, ne_eq, not_true_eq_false, not_false_eq_true, if_false, if_true]
  · simp [mode]

end blocks

/-! ### The restart's effect -/

theorem exec_restartTakesEffect {s : State} (powered : s.powered = true) (activation : s.cc.activationDue = false)
    (due : s.cc.restartDue = true) : exec .restartTakesEffect s = .next (restartDevice s) := by
  have urgent : settleUrgent s = restartDevice s := by simp [settleUrgent, activation, due]
  show Host.Outcome.next (if s.powered then settleUrgent s else s) = _
  rw [if_pos powered, urgent]

/-- Settles O47. The requests are `requestRestart` with and without a persist; each block after the restart is the one that
its part of `restartDevice` gives, since the re-read without a test changes contexts and occupancy alone. -/
theorem restartTakesEffect : Obligations.RestartTakesEffect := by
  refine ⟨fun s p tag h => ?_, fun s live => ⟨fun edge => ⟨fun idle => ?_, fun busy => ?_⟩, fun edge high => ?_⟩,
    fun s powered activation due => ⟨restartDevice s, exec_restartTakesEffect powered activation due, by simp, by simp,
      by simp, fun c => ?channel, fun l => ⟨laneCounters_restartDevice s l, ?queue, ?triggers, ?windows⟩, ?pool, fun l => ?lane,
      ?ring, ?next, fun p enabled => ?ringPort, restartDevice_cc s, fun l => ?mode, ?test, ?last, fun p => ?port⟩⟩
  case channel =>
    rw [State.channel, restartDevice_sfe]
    exact restarted_channel s c
  case queue =>
    rw [State.queue, restartDevice_xf]
    exact restarted_queue s l
  case triggers => rw [restartDevice_cle, restarted_triggers]
  case windows => rw [windows_restartDevice]
  case pool =>
    intro l r
    rw [State.pool, restartDevice_xf]
    exact restarted_pool s l r
  case lane =>
    have after : (restartDevice s).va = (rereadAll (restarted s)).va := by rw [restartDevice_eq, restartPn_va]
    have lane := restarted_lane s l
    rw [State.context, ← after] at lane
    refine ⟨fun reads free => ?_, fun same => ?_, fun clear => ?_⟩
    · rw [if_pos ⟨reads, free⟩] at lane
      exact Prod.mk.inj lane
    · rw [if_neg (by simp [same])] at lane
      obtain ⟨occupied, context⟩ := Prod.mk.inj lane
      refine ⟨occupied.trans ?_, context⟩
      split
      · rfl
      · exact (State.occupied_eq_none (by simp_all)).symm
    · rw [if_neg (by simp [clear]), if_neg (by simp [clear])] at lane
      exact Prod.mk.inj lane
  case ring => simp [restartDevice_rr, restarted, restartRr]
  case next => simp [restartDevice_rr, restarted, restartRr]
  case ringPort =>
    rw [State.ringPort, restartDevice_rr]
    refine (restarted_ringPort s p).trans (if_neg ?_)
    simpa [State.disabled] using enabled
  case mode =>
    rw [State.mode, restartDevice_ltg]
    exact Quad.get_all ..
  case test => rw [restartDevice_ltg]; rfl
  case last =>
    have ltg : (restartDevice s).ltg.last = (restartLtg s).ltg.last := by rw [restartDevice_ltg]
    exact ltg
  case port =>
    rw [port_restartDevice, restartPort_eq]
    simp only [State.disabled, decide_eq_true_eq]
  · have restart := arrives_any h ⟨0x34, tag, []⟩ (c := .restart) rfl rfl
    refine ⟨fun idle => ?_, fun busy => ?_⟩
    · rwa [runCommand, doRestart_idle idle] at restart
    · rwa [runCommand, doRestart_busy busy] at restart
  · rw [exec_restartInput live, if_pos edge, requestRestart_idle (by exact idle)]
  · rw [exec_restartInput live, if_pos edge, requestRestart_busy (by exact busy)]
  · rw [exec_restartInput live, if_neg (by simp [edge, high])]

end Sys2Proof.Machine
end

section
/-! Row-A queues, row-B matching and axles (R28 to R34): O18, O19 and O20; and the Load Computer's axle (R59 to R71): O22. -/

namespace Sys2Proof.Machine

/-! ### Flags -/

/-- A flag that the model spells by its bits, read at a bit. -/
theorem getLsbD_flagIf {f : Flags} {i : Nat} (hf : f = BitVec.twoPow 18 i) (b : Bool) (hi : i < 18) (j : Nat) :
    (flagIf b f).getLsbD j = (b && decide (i = j)) := by
  subst hf
  cases b <;> simp [flagIf, BitVec.getLsbD_twoPow, hi]

/-- The axle flags 0 to 5 alone: no bit from 6 on is set. -/
theorem flags_lt_64_iff (f : Flags) : f.toNat < 64 ↔ ∀ i, 6 ≤ i → f.getLsbD i = false :=
  ⟨fun h _ hi => Nat.testBit_lt_two_pow (h.trans_le (Nat.pow_le_pow_right (by decide : 0 < 2) hi)),
    fun h => Nat.lt_pow_two_of_testBit _ (n := 6) h⟩

/-! ### Orphans of row A -/

/-- A number of row-A orphans counted on a lane (R35). -/
def State.countOrphansA (s : State) (l : Lane) (n : Nat) : State :=
  { s with xf := { s.xf with orphanA := s.xf.orphanA.set l (s.xf.orphanA.get l + BitVec.ofNat 32 n) } }

theorem State.countOrphanA_eq (s : State) (l : Lane) : s.countOrphanA l = s.countOrphansA l 1 := rfl

@[simp] theorem State.countOrphansA_zero (s : State) (l : Lane) : s.countOrphansA l 0 = s := by
  simp [State.countOrphansA]

@[simp] theorem State.countOrphansA_countOrphansA (s : State) (l : Lane) (m n : Nat) :
    (s.countOrphansA l m).countOrphansA l n = s.countOrphansA l (m + n) := by
  simp [State.countOrphansA, BitVec.ofNat_add, BitVec.add_assoc]

theorem State.withQueue_countOrphansA (s : State) (l : Lane) (q : List Crossing) (n : Nat) :
    (s.withQueue l q).countOrphansA l n = (s.countOrphansA l n).withQueue l q := rfl

/-! ### The row-A queue (R29, R30) -/

theorem insertCrossing_split (x : Crossing) (q : List Crossing) : ∃ before after, q = before ++ after ∧
    insertCrossing x q = before ++ x :: after ∧ (∀ y ∈ before, 0 ≤ timeDiff x.time y.time) ∧
    ∀ y, after.head? = some y → timeDiff x.time y.time < 0 := by
  induction q with
  | nil => exact ⟨[], [], rfl, rfl, by simp, by simp⟩
  | cons y ys ih =>
    by_cases hy : timeDiff x.time y.time < 0
    · exact ⟨[], y :: ys, rfl, by simp [insertCrossing, hy], by simp, by simpa⟩
    · obtain ⟨before, after, rfl, e, hb, ha⟩ := ih
      refine ⟨y :: before, after, rfl, by simp [insertCrossing, hy, e], ?_, ha⟩
      simpa using ⟨not_lt.mp hy, hb⟩

/-- The expired entries leave the queue and are counted; the others keep their order (R30). -/
theorem expireQueue_eq (l : Lane) (s : State) : expireQueue l s =
    (s.countOrphansA l ((s.queue l).countP (entryExpired s l))).withQueue l
      ((s.queue l).filter fun x => !entryExpired s l x) := by
  rw [List.countP_eq_length_filter]
  rfl

/-- With no entry due, an expiry changes nothing: ROW_A_EXPIRY is the expiry, due or not. -/
theorem eventRowA_eq (l : Lane) (s : State) : eventRowA l s = expireQueue l s := by
  unfold eventRowA
  cases due : rowADue s l with
  | true => rfl
  | false =>
    have young : ∀ x ∈ s.queue l, entryExpired s l x = false := by simpa [rowADue] using due
    have none_gone : (s.queue l).countP (entryExpired s l) = 0 := by simpa [List.countP_eq_zero] using young
    have all_kept : ((s.queue l).filter fun x => !entryExpired s l x) = s.queue l := by
      simpa [List.filter_eq_self] using young
    rw [whenever_false, expireQueue_eq, none_gone, all_kept, State.countOrphansA_zero]
    simp [State.withQueue, State.queue]

/-- Settles O18: the place of the insertion, and the expiry of the queue. -/
theorem rowAQueueOrderAndExpiry : Obligations.RowAQueueOrderAndExpiry := by
  refine ⟨fun x s row => ?_, fun s l live => ?_⟩
  · intro q
    obtain ⟨before, after, split, inserted, hb, ha⟩ := insertCrossing_split x (if 16 ≤ q.length then q.tail else q)
    refine ⟨before, after, split, hb, ha, ?_⟩
    have joins : routeCrossing x s = joinRowA x s := by
      unfold routeCrossing
      rw [row]
    rw [joins, ← inserted]
    unfold joinRowA
    by_cases full : 16 ≤ q.length
    · simp only [if_pos full]
      exact if_pos full
    · simp only [if_neg full]
      exact if_neg full
  · have expiry : exec (.rowAExpiry l) s = .next (eventRowA l s) := onLive_live live _
    rw [expiry, eventRowA_eq, expireQueue_eq]
    rfl

/-! ### Row-B matching (R31) -/

section matching
variable (b : Crossing) (s : State)

/-- The heads above the maximum leave the queue as row-A orphans (R31). -/
theorem matchRowB_append {dropped : List Crossing} (rest : List Crossing)
    (above : ∀ a ∈ dropped, ((s.xf.windows.get b.lane).dtMax : Int) < timeDiff b.time a.time) :
    matchRowB b (dropped ++ rest) s = matchRowB b rest (s.countOrphansA b.lane dropped.length) := by
  induction dropped generalizing s with
  | nil => simp
  | cons a dropped ih =>
    obtain ⟨ha, above⟩ := List.forall_mem_cons.mp above
    have step : matchRowB b (a :: (dropped ++ rest)) s = matchRowB b (dropped ++ rest) (s.countOrphanA b.lane) :=
      if_pos ha
    rw [List.cons_append, step, ih _ (by exact above), State.countOrphanA_eq, State.countOrphansA_countOrphansA,
      Nat.add_comm, List.length_cons]

variable {b s} {a : Crossing} (tail : List Crossing)

/-- A head below the minimum stays, and the crossing is a row-B orphan (R31). -/
theorem matchRowB_below_window (ordered : timeDiff b.time a.time ≤ (s.xf.windows.get b.lane).dtMax)
    (early : timeDiff b.time a.time < (s.xf.windows.get b.lane).dtMin) :
    matchRowB b (a :: tail) s = (s.withQueue b.lane (a :: tail)).countOrphanB b.lane := by
  unfold matchRowB
  exact (if_neg (not_lt.mpr ordered)).trans (if_pos early)

/-- A head in the window leaves and forms an axle with the crossing (R31). -/
theorem matchRowB_in_window (ordered : timeDiff b.time a.time ≤ (s.xf.windows.get b.lane).dtMax)
    (late : (s.xf.windows.get b.lane).dtMin ≤ timeDiff b.time a.time) :
    matchRowB b (a :: tail) s =
      handOnAxle (formAxle s a b (timeDiff b.time a.time).toNat) (s.withQueue b.lane tail) := by
  rw [matchRowB]
  exact (if_neg (not_lt.mpr ordered)).trans (if_neg (not_lt.mpr late))

end matching

/-- A row-B crossing meets its queue after the expiry of this tick; heads above the maximum are orphans too (R30, R31). -/
theorem routeCrossing_rowB {b : Crossing} {s : State} {dropped rest : List Crossing} (row : b.row = .b)
    (kept : ((s.queue b.lane).filter fun x => !entryExpired s b.lane x) = dropped ++ rest)
    (above : ∀ a ∈ dropped, ((s.xf.windows.get b.lane).dtMax : Int) < timeDiff b.time a.time) :
    routeCrossing b s = matchRowB b rest ((s.countOrphansA b.lane
      ((s.queue b.lane).countP (entryExpired s b.lane) + dropped.length)).withQueue b.lane (dropped ++ rest)) := by
  have meets : routeCrossing b s = meetRowB b s := by
    unfold routeCrossing
    rw [row]
  rw [meets, meetRowB, expireQueue_eq, kept, State.queue_withQueue_self, matchRowB_append b _ rest (by exact above),
    State.withQueue_countOrphansA, State.countOrphansA_countOrphansA]

/-- Settles O19: the expiry and the heads above the maximum come first, then the match of what is left. -/
theorem rowBCrossingMatches : Obligations.RowBCrossingMatches := by
  intro b s dropped rest row w old kept above head u
  have routed : routeCrossing b s = matchRowB b rest (u.withQueue b.lane (dropped ++ rest)) :=
    routeCrossing_rowB row kept above
  rw [routed]
  refine ⟨fun empty => ?_, fun a tail hr => ⟨fun early => ?_, fun late => ?_⟩⟩
  · rw [empty, matchRowB, State.withQueue_withQueue]
  · have ordered := head a (by rw [hr]; rfl)
    have orphan := matchRowB_below_window (s := u.withQueue b.lane (dropped ++ rest)) tail ordered early
    rwa [State.withQueue_withQueue, ← hr] at orphan
  · have ordered := head a (by rw [hr]; rfl)
    have axle := matchRowB_in_window (s := u.withQueue b.lane (dropped ++ rest)) tail ordered late
    rwa [State.withQueue_withQueue, ← hr] at axle

/-! ### The axle (R32, R33) -/

/-- A speed of a time in the transit window lies in the band that the window is computed from (R28, R32). -/
theorem speed_in_band {site : SiteEntry} {d dt : Nat} (hdt : 0 < dt) (hmin : 0 < site.vMin) (hmax : 0 < site.vMax)
    (low : (transitWindow site d).dtMin ≤ dt) (high : dt ≤ (transitWindow site d).dtMax) :
    site.vMin ≤ roundHalfUp (d * 16384) dt ∧ roundHalfUp (d * 16384) dt ≤ site.vMax := by
  simp only [transitWindow, ceilDiv] at low high
  generalize d * 16384 = x at low high ⊢
  have slow : dt * site.vMin ≤ x := (Nat.le_div_iff_mul_le hmin).mp high
  have fast : x ≤ dt * site.vMax := by
    have := (Nat.div_lt_iff_lt_mul hmax).mp (Nat.lt_succ_of_le low)
    rw [Nat.succ_mul] at this
    omega
  unfold roundHalfUp
  refine ⟨(Nat.le_div_iff_mul_le (by omega)).mpr ?_, Nat.le_of_lt_succ ((Nat.div_lt_iff_lt_mul (by omega)).mpr ?_)⟩
  · calc site.vMin * (2 * dt) = 2 * (dt * site.vMin) := by ring
      _ ≤ 2 * x + dt := by omega
  · calc 2 * x + dt < 2 * (dt * site.vMax) + 2 * dt := by omega
      _ = (site.vMax + 1) * (2 * dt) := by ring

/-- A side has one row's wheel alone where just one of its crossings carries one (R33). -/
theorem singleRow_eq (a b : Option Wheel) : singleRow a b = decide ((sideWheels a b).length = 1) := by
  cases a <;> cases b <;> rfl

/-- An axle's flags, bit by bit (R33, 11.3). -/
theorem getLsbD_formAxle_flags (s : State) (a b : Crossing) (dt i : Nat) :
    (formAxle s a b dt).flags.getLsbD i =
      (((singleRow a.right b.right || singleRow a.left b.left) && decide (2 = i)) ||
       (((sideWheels a.right b.right).isEmpty || (sideWheels a.left b.left).isEmpty) && decide (0 = i)) ||
       ((a.straddle || b.straddle) && decide (1 = i)) || ((a.channelHeld || b.channelHeld) && decide (3 = i)) ||
       ((a.test || b.test) && decide (5 = i)) ||
       ((sideWheels a.right b.right ++ sideWheels a.left b.left).any (·.suspect) && decide (4 = i))) := by
  have single (x : Bool) := getLsbD_flagIf (f := Flag.singleRow) (i := 2) rfl x (by decide) i
  have oneSided (x : Bool) := getLsbD_flagIf (f := Flag.oneSided) (i := 0) rfl x (by decide) i
  have straddle (x : Bool) := getLsbD_flagIf (f := Flag.straddle) (i := 1) rfl x (by decide) i
  have held (x : Bool) := getLsbD_flagIf (f := Flag.channelHeld) (i := 3) rfl x (by decide) i
  have test (x : Bool) := getLsbD_flagIf (f := Flag.test) (i := 5) rfl x (by decide) i
  have suspect (x : Bool) := getLsbD_flagIf (f := Flag.channelSuspect) (i := 4) rfl x (by decide) i
  simp only [formAxle, BitVec.getLsbD_or, single, oneSided, straddle, held, test, suspect]

/-- Settles O20: the band by the window's two divisions, the flags bit by bit. -/
theorem axleFormation : Obligations.AxleFormation := by
  refine ⟨fun s a b dt => ?_, fun s a b dt => ?_⟩
  · intro d w hdt hmin hmax low high f
    obtain ⟨slow, fast⟩ := speed_in_band hdt hmin hmax low high
    exact ⟨rfl, slow, fast, rfl⟩
  · intro f
    have bits (i : Nat) := getLsbD_formAxle_flags s a b dt i
    refine ⟨rfl, rfl, rfl, (bits 0).trans ?_, (bits 1).trans ?_, (bits 2).trans ?single, (bits 3).trans ?_,
      (bits 4).trans ?_, (bits 5).trans ?_, (flags_lt_64_iff _).mpr fun i hi => (bits i).trans ?others⟩
    case single =>
      have right : f.rightRows = sideWheels a.right b.right := rfl
      have left : f.leftRows = sideWheels a.left b.left := rfl
      simp [singleRow_eq, right, left]
    case others =>
      have above {n : Nat} (hn : n < 6) : n ≠ i := by omega
      simp [above]
    all_goals simp [f, formAxle]

/-! ### Loads (R59 to R71) -/

/-- The flags of a computed axle, bit by bit (R63, R70, 11.3). -/
theorem getLsbD_computeLoads_flags (s : State) (f : FormedAxle) (i : Nat) :
    let one := rowLoad s.set f.speed (s.ptu.lanes.get f.lane).applied (speedFactor s.set f.speed)
    (computeLoads s f).flags.getLsbD i =
      (f.flags.getLsbD i || (outOfBand s.set f.speed && decide (6 = i)) ||
       ((s.ptu.lanes.get f.lane).substituted && decide (7 = i)) ||
       ((f.rightRows ++ f.leftRows).any (fun w => (one w).2) && decide (8 = i)) ||
       ((f.rightRows ++ f.leftRows).any (·.areaSat) && decide (9 = i))) := by
  intro one
  have band (x : Bool) := getLsbD_flagIf (f := Flag.speedOutOfBand) (i := 6) rfl x (by decide) i
  have substituted (x : Bool) := getLsbD_flagIf (f := Flag.tempSubstituted) (i := 7) rfl x (by decide) i
  have load (x : Bool) := getLsbD_flagIf (f := Flag.loadSat) (i := 8) rfl x (by decide) i
  have area (x : Bool) := getLsbD_flagIf (f := Flag.areaSat) (i := 9) rfl x (by decide) i
  have any : (f.rightRows.map one ++ f.leftRows.map one).any (·.2) =
      (f.rightRows ++ f.leftRows).any fun w => (one w).2 := by
    rw [← List.map_append, List.any_map]
    rfl
  simp only [computeLoads, BitVec.getLsbD_or, band, substituted, load, area]
  rw [← any]

/-- The band of the speed table lies between its first and its last point (R63). -/
theorem outOfBand_eq (set : CalSet) (v : Nat) :
    outOfBand set v = decide (v < (set.speed.get 0).speed ∨ (set.speed.get 7).speed < v) := by
  simp [outOfBand, List.getD_eq_getElem?_getD, Vector.get]

/-- Settles O22: the loads by the definition of the computation, the flags bit by bit. -/
theorem loadComputation : Obligations.LoadComputation := by
  intro s f low a points one
  have bits (i : Nat) := getLsbD_computeLoads_flags s f i
  have own (i : Nat) (hi : 6 ≤ i) : f.flags.getLsbD i = false := (flags_lt_64_iff _).mp low i hi
  refine ⟨rfl, rfl, rfl, rfl, rfl, rfl, ?right, ?left, rfl, fun i hi => (bits i).trans ?_, (bits 6).trans ?_,
    (bits 7).trans ?_, (bits 8).trans ?_, (bits 9).trans ?_, fun i hi => (bits i).trans ?_⟩
  case right => exact congrArg wheelLoad (List.map_map ..)
  case left => exact congrArg wheelLoad (List.map_map ..)
  · have above {n : Nat} (hn : 6 ≤ n) : n ≠ i := by omega
    simp [above]
  · rw [own 6 le_rfl, outOfBand_eq]
    simp
  · rw [own 7 (by decide)]
    simp
  · rw [own 8 (by decide)]
    simp [one, points, speedFactor, speedPoints]
  · rw [own 9 (by decide)]
    simp
  · have below {n : Nat} (hn : n < 10) : n ≠ i := by omega
    simp [own i (by omega), below]

end Sys2Proof.Machine
end

section
/-! Pairing on a live device (R21 to R25): O16 and O17. -/

namespace Sys2Proof.Machine

/-! ### The closest candidate (R22, R23) -/

/-- Of two receipts less than half the counter's range old, the older is the earlier (00_scope.md 5.2). -/
theorem timeDiff_neg_iff_elapsed {now t u : Time} (ht : elapsed now t < 2 ^ 31) (hu : elapsed now u < 2 ^ 31) :
    timeDiff t u < 0 ↔ elapsed now u < elapsed now t := by
  unfold timeDiff elapsed at *
  rw [BitVec.toInt_neg_iff]
  bv_omega

/-- A hit is closer to `h` than another, or equally close and received no later (R22). -/
def AsClose (now : Time) (h k j : PoolHit) : Prop :=
  timeGap k.time h.time < timeGap j.time h.time ∨
    (timeGap k.time h.time = timeGap j.time h.time ∧ elapsed now j.receipt ≤ elapsed now k.receipt)

theorem AsClose.refl (now : Time) (h k : PoolHit) : AsClose now h k k := .inr ⟨rfl, le_rfl⟩

theorem AsClose.trans {now : Time} {h i j k : PoolHit} (hij : AsClose now h i j) (hjk : AsClose now h j k) :
    AsClose now h i k := by
  unfold AsClose at *
  omega

/-- The closer to `h` of the hit held so far and the next one; the one held where neither is closer (R22). -/
def closer (h held next : PoolHit) : PoolHit :=
  if timeGap next.time h.time < timeGap held.time h.time ∨
    (timeGap next.time h.time = timeGap held.time h.time ∧ timeDiff next.receipt held.receipt < 0) then next else held

theorem closer_asClose {now : Time} {h held next : PoolHit} (recentHeld : elapsed now held.receipt < 2 ^ 31)
    (recentNext : elapsed now next.receipt < 2 ^ 31) :
    AsClose now h (closer h held next) held ∧ AsClose now h (closer h held next) next := by
  have earlier := timeDiff_neg_iff_elapsed recentNext recentHeld
  unfold closer AsClose
  split <;> rename_i c <;> rw [earlier] at c <;> omega

/-- One more candidate, at the end of the list. -/
theorem closest_concat (h k : PoolHit) (q : List PoolHit) :
    closest h (q ++ [k]) = some ((closest h q).elim k fun held => closer h held k) := by
  have fold : closest h (q ++ [k]) = match closest h q with
      | none => some k
      | some held => if timeGap k.time h.time < timeGap held.time h.time ∨
          (timeGap k.time h.time = timeGap held.time h.time ∧ timeDiff k.receipt held.receipt < 0)
        then some k else some held := by
    unfold closest
    rw [List.foldl_append]
    rfl
  rw [fold]
  cases closest h q with
  | none => rfl
  | some held => exact (apply_ite some _ _ _).symm

theorem closest_nil (h : PoolHit) : closest h [] = none := rfl

theorem closest_eq_none_iff {h : PoolHit} {q : List PoolHit} : closest h q = none ↔ q = [] := by
  induction q using List.reverseRecOn with
  | nil => simp [closest_nil]
  | append_singleton q k => simp [closest_concat]

/-- The closest candidate is as close as every other (R22). -/
theorem closest_asClose {now : Time} {h k : PoolHit} {q : List PoolHit}
    (recent : ∀ j ∈ q, elapsed now j.receipt < 2 ^ 31) (hk : closest h q = some k) : ∀ j ∈ q, AsClose now h k j := by
  induction q using List.reverseRecOn generalizing k with
  | nil => simp
  | append_singleton q x ih =>
    rw [closest_concat] at hk
    have recentX : elapsed now x.receipt < 2 ^ 31 := recent x (by simp)
    have recentQ : ∀ j ∈ q, elapsed now j.receipt < 2 ^ 31 := fun j hj => recent j (by simp [hj])
    cases held : closest h q with
    | none =>
      obtain rfl := closest_eq_none_iff.mp held
      obtain rfl : x = k := by simpa [held] using hk
      simpa using AsClose.refl now h x
    | some y =>
      obtain rfl : closer h y x = k := by simpa [held] using hk
      obtain ⟨older, newer⟩ := closer_asClose (h := h) (recentQ y (closest_mem held)) recentX
      intro j hj
      rcases List.mem_append.mp hj with hj | hj
      · exact older.trans (ih recentQ held j hj)
      · rwa [List.mem_singleton.mp hj]

/-- Where there is a candidate, there is a closest one. -/
theorem exists_closest {now : Time} (h : PoolHit) {q : List PoolHit} (recent : ∀ j ∈ q, elapsed now j.receipt < 2 ^ 31)
    {j : PoolHit} (hj : j ∈ q) : ∃ k ∈ q, closest h q = some k ∧ ∀ j ∈ q, AsClose now h k j := by
  cases hk : closest h q with
  | none => simp [closest_eq_none_iff.mp hk] at hj
  | some k => exact ⟨k, closest_mem hk, rfl, closest_asClose recent hk⟩

/-! ### Candidates and the lane beside (R22, R23) -/

theorem mem_ownCandidates {pool : List PoolHit} {h k : PoolHit} {window : Nat} : k ∈ ownCandidates pool h window ↔
    k ∈ pool ∧ k.channel.half = h.channel.half.opposite ∧ timeGap k.time h.time ≤ window := by
  simp [ownCandidates]

theorem ownCandidates_eq_nil_iff {pool : List PoolHit} {h : PoolHit} {window : Nat} : ownCandidates pool h window = [] ↔
    ∀ k ∈ pool, k.channel.half = h.channel.half.opposite → window < timeGap k.time h.time := by
  simp [ownCandidates]

theorem opposite_opposite (x : Half) : x.opposite.opposite = x := by cases x <;> rfl

theorem mem_straddleCandidates {pool : List PoolHit} {h k : PoolHit} : k ∈ straddleCandidates pool h ↔
    k ∈ pool ∧ k.channel.half = h.channel.half.opposite ∧ timeGap k.time h.time ≤ h.window ∧
      ∀ z ∈ pool, z.channel.half = h.channel.half → h.window < timeGap z.time k.time := by
  have own (half : k.channel.half = h.channel.half.opposite) : ownCandidates pool k h.window = [] ↔
      ∀ z ∈ pool, z.channel.half = h.channel.half → h.window < timeGap z.time k.time := by
    rw [ownCandidates_eq_nil_iff, half, opposite_opposite]
  simp only [straddleCandidates, List.mem_filter, Bool.and_eq_true, decide_eq_true_eq, List.isEmpty_iff]
  refine and_congr_right fun _ => ?_
  rw [and_assoc]
  exact and_congr_right fun half => and_congr_right fun _ => own half

/-- LEFT of lane n stands beside RIGHT of lane n + 1 (00_scope.md 4.1). -/
theorem neighbourLane_eq_some_iff {l m : Lane} {x : Half} : neighbourLane l x = some m ↔
    (x = .left ∧ laneNumber m = laneNumber l + 1) ∨ (x = .right ∧ laneNumber l = laneNumber m + 1) := by
  cases l <;> cases m <;> cases x <;> decide

/-- A hit has a straddle partner across its boundary where both lanes are OPEN (R23). -/
theorem straddlePartner_open {s : State} {h : PoolHit} {m : Lane}
    (beside : neighbourLane h.channel.lane h.channel.half = some m) (own : s.mode h.channel.lane = .opened)
    (other : s.mode m = .opened) : straddlePartner s h =
      (closest h (straddleCandidates (s.pool m h.channel.row) h)).map fun k => (m, k) := by
  unfold straddlePartner
  rw [beside]
  exact if_pos ⟨own, other⟩

/-- A hit has no straddle partner where no hit across a boundary of OPEN lanes is a straddle candidate (R23). -/
theorem straddlePartner_eq_none {s : State} {h : PoolHit}
    (none_beside : ∀ m, neighbourLane h.channel.lane h.channel.half = some m → s.mode h.channel.lane = .opened →
      s.mode m = .opened → straddleCandidates (s.pool m h.channel.row) h = []) : straddlePartner s h = none := by
  unfold straddlePartner
  split
  · rfl
  · rename_i m beside
    split
    · rename_i modes
      rw [none_beside m beside modes.1 modes.2]
      rfl
    · rfl

/-! ### The decision (R21) -/

section decision
variable {s : State} {h k : PoolHit} {m : Lane}

theorem decideHit_own
    (pair : closest h (ownCandidates ((s.pool h.channel.lane h.channel.row).erase h) h h.window) = some k) :
    decideHit h s = routeCrossing (twoSided s h k) (s.withPool h.channel.lane h.channel.row
      (((s.pool h.channel.lane h.channel.row).erase h).erase k)) := by
  unfold decideHit
  dsimp only
  rw [pair]

theorem decideHit_straddle
    (alone : ownCandidates ((s.pool h.channel.lane h.channel.row).erase h) h h.window = [])
    (partner : straddlePartner s h = some (m, k)) :
    decideHit h s = routeCrossing (straddleCrossing s h k)
      ((s.withPool h.channel.lane h.channel.row ((s.pool h.channel.lane h.channel.row).erase h)).withPool m h.channel.row
        ((s.pool m h.channel.row).erase k)) := by
  unfold decideHit
  dsimp only
  rw [alone, closest_nil, partner]

theorem decideHit_oneSided
    (alone : ownCandidates ((s.pool h.channel.lane h.channel.row).erase h) h h.window = [])
    (partner : straddlePartner s h = none) :
    decideHit h s = routeCrossing (oneSidedCrossing s h)
      (s.withPool h.channel.lane h.channel.row ((s.pool h.channel.lane h.channel.row).erase h)) := by
  unfold decideHit
  dsimp only
  rw [alone, closest_nil, partner]

/-- PAIRING_DEADLINE of a hit whose deadline is reached (R21). -/
theorem exec_pairingDeadline {l : Lane} {r : Row} {i : Nat} (live : Live s) (hit : (s.pool l r)[i]? = some h)
    (deadline : reached s.now h.deadline = true) :
    exec (.pairingDeadline l r i) s = .next (noteEmptied (decideHit h s)) := by
  have event : exec (.pairingDeadline l r i) s = .next (eventPairing l r i s) := onLive_live live _
  have due : pairingDue s l r i = some h := by simp [pairingDue, hit, deadline]
  rw [event, eventPairing, due]

end decision

/-- Settles O16: the closest own-lane candidate, and the crossing of the pair. -/
theorem pairingOwnLane : Obligations.PairingOwnLane := by
  intro s l r i h live keyed recent hit deadline others candidate some_candidate
  obtain ⟨rfl, rfl⟩ := keyed l r h (List.mem_of_getElem? hit)
  have mem (k : PoolHit) : k ∈ ownCandidates others h h.window ↔ k ∈ others ∧ candidate k := mem_ownCandidates
  obtain ⟨j, hj, cj⟩ := some_candidate
  obtain ⟨k, hk, pair, close⟩ := exists_closest (now := s.now) h
    (fun x hx => recent x (List.mem_of_mem_erase ((mem x).mp hx).1)) ((mem j).mpr ⟨hj, cj⟩)
  obtain ⟨hk, ck⟩ := (mem k).mp hk
  refine ⟨k, hk, ck, fun j hj cj => close j ((mem j).mpr ⟨hj, cj⟩), ?_⟩
  rw [exec_pairingDeadline live hit deadline, decideHit_own pair]
  rfl

/-! ### The lane of a straddle (R24) -/

section straddle
variable {s : State} {n m : Lane}

theorem straddleLane_first (hn : (s.va.occupied.get n).isSome = true) (hm : s.va.occupied.get m = none) :
    straddleLane s n m = n := by
  obtain ⟨t, hn⟩ := Option.isSome_iff_exists.mp hn
  simp [straddleLane, hn, hm]

theorem straddleLane_second (hn : s.va.occupied.get n = none) (hm : (s.va.occupied.get m).isSome = true) :
    straddleLane s n m = m := by
  obtain ⟨t, hm⟩ := Option.isSome_iff_exists.mp hm
  simp [straddleLane, hn, hm]

theorem straddleLane_both {t u : Time} (hn : s.va.occupied.get n = some t) (hm : s.va.occupied.get m = some u) :
    straddleLane s n m = if (u - t).msb = true then m else n := by
  simp [straddleLane, hn, hm, timeDiff, BitVec.msb_eq_toInt]

theorem straddleLane_neither (hn : s.va.occupied.get n = none) (hm : s.va.occupied.get m = none) :
    straddleLane s n m = n := by
  simp [straddleLane, hn, hm]

/-- Between two OPEN lanes a STRADDLE crossing is no test's (R24, R37). -/
theorem straddleCrossing_test {h k : PoolHit} (own : s.mode h.channel.lane = .opened)
    (other : s.mode k.channel.lane = .opened) : (straddleCrossing s h k).test = false := by
  have test : (straddleCrossing s h k).test = decide (s.mode (straddleCrossing s h k).lane = .test) := rfl
  rcases straddleCrossing_lane s h k with lane | lane <;> simp [test, lane, own, other]

end straddle

/-- Settles O17: without an own-lane candidate, the closest straddle candidate or a ONE_SIDED crossing; the table of R24. -/
theorem pairingStraddleOrOneSided : Obligations.PairingStraddleOrOneSided := by
  refine ⟨fun s l r i h live keyed recent hit deadline => ?_, fun s n m =>
    ⟨straddleLane_first, straddleLane_second, fun t u => straddleLane_both, straddleLane_neither⟩⟩
  intro half beside rest partner no_own
  obtain ⟨rfl, rfl⟩ := keyed l r h (List.mem_of_getElem? hit)
  have alone : ownCandidates rest h h.window = [] := ownCandidates_eq_nil_iff.mpr no_own
  have neighbour (m : Lane) : neighbourLane h.channel.lane half = some m ↔ beside m := neighbourLane_eq_some_iff
  have mem (m : Lane) (k : PoolHit) : k ∈ straddleCandidates (s.pool m h.channel.row) h ↔ partner m k :=
    mem_straddleCandidates
  rw [exec_pairingDeadline live hit deadline]
  refine ⟨fun no_partner => ?_, fun m hm own other some_partner => ?_⟩
  · have unpaired : straddlePartner s h = none := straddlePartner_eq_none fun m hm own other =>
      List.eq_nil_iff_forall_not_mem.mpr fun k hk => no_partner m ((neighbour m).mp hm) own other k ((mem m k).mp hk)
    rw [decideHit_oneSided alone unpaired]
    rfl
  · obtain ⟨j, hj⟩ := some_partner
    obtain ⟨k, hk, pair, close⟩ := exists_closest (now := s.now) h
      (fun x hx => recent m x (mem_straddleCandidates.mp hx).1) ((mem m j).mpr hj)
    have hk := (mem m k).mp hk
    obtain ⟨klane, -⟩ := keyed m h.channel.row k hk.1
    have paired : straddlePartner s h = some (m, k) := by
      rw [straddlePartner_open ((neighbour m).mpr hm) own other, pair]
      rfl
    refine ⟨k, straddleCrossing s h k, hk, fun j hj => close j ((mem m j).mpr hj), rfl, rfl, rfl, rfl,
      straddleCrossing_test own (klane ▸ other), rfl, rfl, rfl, ?_, ?_⟩
    · subst klane
      cases hh : half <;> simp [straddleCrossing, hh, half]
    · rw [decideHit_straddle alone paired]

end Sys2Proof.Machine
end

section
/-! Rounding half away from zero (00_scope.md 5.3), and interpolation over ascending points (R49, R62): O14. -/

namespace Sys2Proof.Machine

/-! ### Rounding half away from zero -/

theorem roundHalfUp_zero (d : Nat) : roundHalfUp 0 d = 0 := by
  rcases Nat.eq_zero_or_pos d with rfl | hd
  · rfl
  · exact Nat.div_eq_of_lt (by omega)

theorem roundHalfAway_eq_sign (n : Int) (d : Nat) : roundHalfAway n d = n.sign * roundHalfUp n.natAbs d := by
  rcases lt_trichotomy n 0 with h | rfl | h
  · simp [roundHalfAway, h, Int.sign_eq_neg_one_of_neg h]
  · simp [roundHalfAway, roundHalfUp_zero]
  · simp [roundHalfAway, h.le.not_gt, Int.sign_eq_one_of_pos h]

theorem roundHalfAway_zero (d : Nat) : roundHalfAway 0 d = 0 := by simp [roundHalfAway_eq_sign]

theorem roundHalfAway_neg (n : Int) (d : Nat) : roundHalfAway (-n) d = -roundHalfAway n d := by
  simp [roundHalfAway_eq_sign]

/-- Rounding passes no whole number that the quotient does not pass. -/
theorem roundHalfAway_le {n b : Int} {d : Nat} (hd : 0 < d) (h : n ≤ b * d) : roundHalfAway n d ≤ b := by
  have pos : (0 : Int) < d := by exact_mod_cast hd
  unfold roundHalfAway roundHalfUp
  split
  next negative =>
    have : -b ≤ ((2 * n.natAbs + d : Nat) : Int) / (2 * d : Nat) := by
      rw [Int.le_ediv_iff_mul_le (by omega)]
      push_cast
      rw [abs_of_neg negative]
      linarith
    rw [Int.natCast_ediv]
    omega
  next nonnegative =>
    have : ((2 * n.natAbs + d : Nat) : Int) / (2 * d : Nat) < b + 1 := by
      rw [Int.ediv_lt_iff_lt_mul (by omega)]
      push_cast
      rw [abs_of_nonneg (not_lt.mp nonnegative)]
      linarith
    rw [Int.natCast_ediv]
    omega

theorem le_roundHalfAway {n a : Int} {d : Nat} (hd : 0 < d) (h : a * d ≤ n) : a ≤ roundHalfAway n d := by
  have := roundHalfAway_le (n := -n) (b := -a) hd (by linarith)
  rw [roundHalfAway_neg] at this
  omega

theorem roundHalfAway_one (n : Int) : roundHalfAway n 1 = n :=
  le_antisymm (roundHalfAway_le one_pos (by simp)) (le_roundHalfAway one_pos (by simp))

/-- A fraction `y / d` of a whole number `n`, rounded, lies between 0 and that number. -/
theorem roundHalfAway_fraction {y n : Int} {d : Nat} (hd : 0 < d) (h0 : 0 ≤ y) (hy : y ≤ d) :
    min 0 n ≤ roundHalfAway (y * n) d ∧ roundHalfAway (y * n) d ≤ max 0 n := by
  rcases le_total 0 n with hn | hn
  · rw [min_eq_left hn, max_eq_right hn]
    exact ⟨le_roundHalfAway hd (by simpa using mul_nonneg h0 hn),
      roundHalfAway_le hd (by linarith [mul_le_mul_of_nonneg_right hy hn])⟩
  · rw [min_eq_right hn, max_eq_left hn]
    exact ⟨le_roundHalfAway hd (by linarith [mul_le_mul_of_nonpos_right hy hn]),
      roundHalfAway_le hd (by simpa using mul_nonpos_of_nonneg_of_nonpos h0 hn)⟩

/-! ### Interpolation -/

theorem interpolate_of_le_head {p : Int × Int} {x : Int} (h : x ≤ p.1) :
    ∀ rest, interpolate (p :: rest) x = p.2
  | [] => rfl
  | _ :: _ => if_pos h

theorem interpolate_between {p q : Int × Int} {x : Int} (rest : List (Int × Int)) (hp : p.1 ≤ x) (hq : x < q.1) :
    interpolate (p :: q :: rest) x = p.2 + roundHalfAway ((x - p.1) * (q.2 - p.2)) (q.1 - p.1).toNat := by
  rcases hp.eq_or_lt with rfl | hp
  · simp [interpolate_of_le_head, roundHalfAway_zero]
  · have distance : (q.1 - p.1).natAbs = (q.1 - p.1).toNat := by omega
    rw [interpolate, if_neg hp.not_ge, if_pos hq, distance]

/-- The points below one that `x` has reached play no part. -/
theorem interpolate_append {q : Int × Int} {rest : List (Int × Int)} {x : Int} (hq : q.1 ≤ x) :
    ∀ before, (before ++ q :: rest).Pairwise (fun p r => p.1 < r.1) →
      interpolate (before ++ q :: rest) x = interpolate (q :: rest) x
  | [], _ => rfl
  | [p], sorted => by
    have above : p.1 < q.1 := List.rel_of_pairwise_cons sorted (by simp)
    simp only [List.singleton_append, interpolate]
    rw [if_neg (by omega), if_neg (by omega)]
  | p :: r :: before, sorted => by
    obtain ⟨above, sorted⟩ := List.pairwise_cons.mp sorted
    have hp : p.1 < q.1 := above q (by simp)
    have hr : r.1 < q.1 := List.rel_of_pairwise_cons sorted (by simp)
    rw [← interpolate_append hq (r :: before) sorted]
    simp only [List.cons_append, interpolate]
    rw [if_neg (by omega), if_neg (by omega)]

theorem eq_append_of_neighbours {α : Type} {p q : α} : ∀ {l : List α} {i : Nat}, l[i]? = some p → l[i + 1]? = some q →
    ∃ before rest, l = before ++ p :: q :: rest
  | [], _, hp, _ => by simp at hp
  | a :: l, 0, hp, hq => by
    obtain ⟨rest, rfl⟩ := List.head?_eq_some_iff.mp (List.head?_eq_getElem? ▸ hq : l.head? = some q)
    exact ⟨[], rest, by simpa using hp⟩
  | a :: l, i + 1, hp, hq => by
    obtain ⟨before, rest, rfl⟩ := eq_append_of_neighbours (l := l) (i := i) hp hq
    exact ⟨a :: before, rest, rfl⟩

/-- Settles O14: the points below `x` play no part, and the first two that remain decide. -/
theorem interpolationOverPoints : Obligations.InterpolationOverPoints := by
  refine fun pts x sorted => ⟨fun p head below => ?_, fun p last above => ?_, fun i p q hp hq above below => ?_⟩
  · obtain ⟨rest, rfl⟩ := List.head?_eq_some_iff.mp head
    exact interpolate_of_le_head below rest
  · obtain ⟨before, rfl⟩ := List.getLast?_eq_some_iff.mp last
    exact interpolate_append above before sorted
  · obtain ⟨before, rest, rfl⟩ := eq_append_of_neighbours hp hq
    have between := (interpolate_append above before sorted).trans (interpolate_between rest above below)
    have fraction := roundHalfAway_fraction (y := x - p.1) (n := q.2 - p.2) (d := (q.1 - p.1).toNat)
      (by omega) (by omega) (by omega)
    exact ⟨between, by omega, by omega⟩

end Sys2Proof.Machine
end

section
/-! Probe readings, the effective temperature, and the lanes' segments and factors (R41 to R57): O12, O13 and O15. -/

namespace Sys2Proof.Machine

/-! ### The filter (R44) -/

theorem filterStep_zero (tf t : Int) : filterStep 0 tf t = t := by
  simp [filterStep, roundHalfAway_one]

theorem filterStep_pos {k : Nat} (hk : 0 < k) (tf t : Int) :
    filterStep k tf t = tf + (t - tf).sign * (((t - tf).natAbs + 2 ^ (k - 1)) / 2 ^ k : Nat) := by
  obtain ⟨j, rfl⟩ := Nat.exists_eq_add_one.mpr hk
  have halved (m : Nat) : roundHalfUp m (2 ^ (j + 1)) = (m + 2 ^ j) / 2 ^ (j + 1) := by
    rw [roundHalfUp, pow_succ', ← mul_add, Nat.mul_div_mul_left _ _ two_pos]
  rw [filterStep, roundHalfAway_eq_sign, halved, Nat.add_sub_cancel]

theorem filterStep_between (k : Nat) (tf t : Int) : min tf t ≤ filterStep k tf t ∧ filterStep k tf t ≤ max tf t := by
  have pos : 0 < 2 ^ k := by positivity
  have step := roundHalfAway_fraction (y := 1) (n := t - tf) pos zero_le_one (by exact_mod_cast pos)
  rw [one_mul] at step
  unfold filterStep
  omega

/-! ### A probe's reading (R41 to R43) -/

section reading

variable {site : SiteEntry} {reading : Option Int} {p : Probe}

theorem acceptedReading_some {t : Int} (low : -640 ≤ t) (high : t ≤ 1360) : acceptedReading (some t) = some t :=
  if_pos ⟨low, high⟩

theorem acceptedReading_none (h : ∀ t, reading = some t → ¬(-640 ≤ t ∧ t ≤ 1360)) : acceptedReading reading = none := by
  cases reading with
  | none => rfl
  | some t => exact if_neg (h t rfl)

theorem readProbeInput_off (h : p.state = .off) : readProbeInput site reading p = (p, false) := if_pos h

theorem readProbeInput_accepted {t : Int} (on : p.state ≠ .off) (h : acceptedReading reading = some t) :
    readProbeInput site reading p = (acceptReading site.filterShift t p, false) := by
  rw [readProbeInput, if_neg on, h]

theorem readProbeInput_rejected (on : p.state ≠ .off) (h : acceptedReading reading = none) :
    readProbeInput site reading p = rejectReading site.staleLimit p := by
  rw [readProbeInput, if_neg on, h]

theorem acceptReading_stale (k : Nat) (t : Int) (h : p.state = .stale) :
    acceptReading k t p = ⟨.valid, some t, 0, false⟩ := by simp [acceptReading, h]

theorem acceptReading_filters (k : Nat) (t : Int) {tf : Int} (h : p.state = .holding ∨ p.state = .valid)
    (htf : p.filtered = some tf) : acceptReading k t p = ⟨.valid, some (filterStep k tf t), 0, false⟩ := by
  rcases h with h | h <;> simp [acceptReading, h, htf]

theorem rejectReading_valid {limit : Nat} (hl : 2 ≤ limit) (h : p.state = .valid) :
    rejectReading limit p = ({ p with state := .holding, rejected := 1 }, false) := by
  have above : ¬limit ≤ 1 := by omega
  simp [rejectReading, h, above]

theorem rejectReading_holding (limit : Nat) (h : p.state = .holding) : rejectReading limit p =
    if limit ≤ p.rejected + 1 then (⟨.stale, none, p.rejected + 1, true⟩, true)
    else ({ p with rejected := p.rejected + 1 }, false) := by simp [rejectReading, h]

theorem rejectReading_stale (limit : Nat) (h : p.state = .stale) : rejectReading limit p =
    if limit ≤ min (p.rejected + 1) 3600 ∧ p.reported = false
    then ({ p with rejected := min (p.rejected + 1) 3600, reported := true }, true)
    else ({ p with rejected := min (p.rejected + 1) 3600 }, false) := by simp [rejectReading, h]

end reading

/-- Settles O12: a reading is accepted or rejected, and each acts by the probe's state; the filter rounds a fraction of
the difference. -/
theorem probeReadingAndFilter : Obligations.ProbeReadingAndFilter := by
  refine ⟨fun site reading p limit => ?_, fun k tf t =>
    ⟨fun hk => hk ▸ filterStep_zero tf t, fun hk => filterStep_pos hk tf t, filterStep_between k tf t⟩⟩
  intro rejected
  refine ⟨readProbeInput_off, fun t ht low high => ?accepted, fun h hs => ?_, fun h hs => ?_, fun h hs => ?_⟩
  case accepted =>
    have accepted : acceptedReading reading = some t := ht ▸ acceptedReading_some low high
    refine ⟨fun hs => ?_, fun tf htf hs => ?_⟩
    · rw [readProbeInput_accepted (by simp [hs]) accepted, acceptReading_stale _ _ hs]
    · have on : p.state ≠ .off := by rcases hs with hs | hs <;> simp [hs]
      rw [readProbeInput_accepted on accepted, acceptReading_filters _ _ hs htf]
  all_goals rw [readProbeInput_rejected (by simp [hs]) (acceptedReading_none h)]
  · exact rejectReading_valid limit hs
  · exact rejectReading_holding _ hs
  · exact rejectReading_stale _ hs

/-! ### The effective temperature (R46) -/

theorem usable_eq_some_iff {p : Probe} {t : Int} :
    usable p = some t ↔ (p.state = .valid ∨ p.state = .holding) ∧ p.filtered = some t := by
  cases h : p.state <;> simp [usable, h]

theorem usable_eq_none {p : Probe} (h : p.state = .off ∨ p.state = .stale) : usable p = none := by
  rcases h with h | h <;> simp [usable, h]

section effective

variable {probes : Quad Probe} {e : LaneEntry} {t u : Int}

theorem substituteTemp_alternate {a : ProbeId} (ha : e.alternate = some a) (h : usable (probes.get a) = some t) :
    substituteTemp probes e = (t, true) := by simp [substituteTemp, ha, h]

theorem substituteTemp_fallback (h : ∀ a, e.alternate = some a → usable (probes.get a) = none) :
    substituteTemp probes e = (e.fallback, true) := by
  cases ha : e.alternate with
  | none => simp [substituteTemp, ha]
  | some a => simp [substituteTemp, ha, h a ha]

theorem effectiveTemp_fixed (hk : e.kind = .fixed) : effectiveTemp probes e = (e.fallback, false) := by
  simp [effectiveTemp, hk]

theorem effectiveTemp_probe (hk : e.kind = .probe) (h : usable (probes.get e.probeP) = some t) :
    effectiveTemp probes e = (t, false) := by simp [effectiveTemp, hk, h]

theorem effectiveTemp_mean (hk : e.kind = .mean) (hp : usable (probes.get e.probeP) = some t)
    (hq : usable (probes.get e.probeQ) = some u) : effectiveTemp probes e = (roundHalfAway (t + u) 2, false) := by
  simp [effectiveTemp, hk, hp, hq]

theorem effectiveTemp_mean_one (hk : e.kind = .mean)
    (h : (usable (probes.get e.probeP) = some t ∧ usable (probes.get e.probeQ) = none) ∨
      (usable (probes.get e.probeP) = none ∧ usable (probes.get e.probeQ) = some t)) :
    effectiveTemp probes e = (t, true) := by
  rcases h with ⟨hp, hq⟩ | ⟨hp, hq⟩ <;> simp [effectiveTemp, hk, hp, hq]

theorem effectiveTemp_substitute (h : (e.kind = .probe ∧ usable (probes.get e.probeP) = none) ∨
      (e.kind = .mean ∧ usable (probes.get e.probeP) = none ∧ usable (probes.get e.probeQ) = none)) :
    effectiveTemp probes e = substituteTemp probes e := by
  rcases h with ⟨hk, hp⟩ | ⟨hk, hp, hq⟩
  · simp [effectiveTemp, hk, hp]
  · simp [effectiveTemp, hk, hp, hq]

section range

variable {low high : Int} (values : ∀ i t, usable (probes.get i) = some t → low ≤ t ∧ t ≤ high)
  (fallback : low ≤ e.fallback ∧ e.fallback ≤ high)

include values fallback

theorem substituteTemp_range : low ≤ (substituteTemp probes e).1 ∧ (substituteTemp probes e).1 ≤ high := by
  unfold substituteTemp
  split
  next t ht =>
    obtain ⟨a, -, ha⟩ := Option.bind_eq_some_iff.mp ht
    exact values a t ha
  · exact fallback

theorem effectiveTemp_range : low ≤ (effectiveTemp probes e).1 ∧ (effectiveTemp probes e).1 ≤ high := by
  have substitute := substituteTemp_range values fallback
  cases hk : e.kind with
  | fixed => simpa [effectiveTemp, hk] using fallback
  | probe =>
    cases hp : usable (probes.get e.probeP) with
    | some t => simpa [effectiveTemp_probe hk hp] using values _ t hp
    | none => rwa [effectiveTemp_substitute (.inl ⟨hk, hp⟩)]
  | mean =>
    cases hp : usable (probes.get e.probeP) with
    | some t =>
      have ht := values _ t hp
      cases hq : usable (probes.get e.probeQ) with
      | some u =>
        have hu := values _ u hq
        rw [effectiveTemp_mean hk hp hq]
        exact ⟨le_roundHalfAway two_pos (by push_cast; omega), roundHalfAway_le two_pos (by push_cast; omega)⟩
      | none => rwa [effectiveTemp_mean_one hk (.inl ⟨hp, hq⟩)]
    | none =>
      cases hq : usable (probes.get e.probeQ) with
      | some u => simpa [effectiveTemp_mean_one hk (.inr ⟨hp, hq⟩)] using values _ u hq
      | none => rwa [effectiveTemp_substitute (.inr ⟨hk, hp, hq⟩)]

end range

end effective

/-- Settles O13: the rows of the table by which of the lane's probes are usable. -/
theorem effectiveTemperature : Obligations.EffectiveTemperature := by
  intro probes e value dead unusable
  have some_of {i : ProbeId} {t : Int} (h : value i t) : usable (probes.get i) = some t := usable_eq_some_iff.mpr h
  have none_of {i : ProbeId} (h : dead i) : usable (probes.get i) = none := usable_eq_none h
  have substituted (h : unusable) : effectiveTemp probes e = substituteTemp probes e :=
    effectiveTemp_substitute (h.imp (.imp_right none_of) (.imp_right (.imp none_of none_of)))
  refine ⟨fun t hk hp => effectiveTemp_probe hk (some_of hp),
    fun t u hk hp hq => effectiveTemp_mean hk (some_of hp) (some_of hq),
    fun t hk h => effectiveTemp_mean_one hk (h.imp (.imp some_of none_of) (.imp none_of some_of)),
    fun a t h ha ht => (substituted h).trans (substituteTemp_alternate ha (some_of ht)),
    fun h ha => (substituted h).trans (substituteTemp_fallback fun a h => none_of (ha a h)),
    effectiveTemp_fixed, fun values low high => ?_⟩
  exact effectiveTemp_range (fun i t h => values i t (usable_eq_some_iff.mp h).2) ⟨low, high⟩

/-! ### The segment of STEP mode (R50) -/

section segment

variable {set : CalSet} {t : Int}

/-- No upward move acts on the segment. -/
def UpStands (set : CalSet) (t : Int) (s : Nat) : Prop := s = 8 ∨ t < pointTemp set (s + 1)

/-- No downward move acts on the segment. -/
def DownStands (set : CalSet) (t : Int) (s : Nat) : Prop := s = 1 ∨ pointTemp set s - set.control.hysteresis ≤ t

theorem segmentUp_of_stands {s : Nat} (h : UpStands set t s) : ∀ n, segmentUp set t n s = s
  | 0 => rfl
  | n + 1 => if_neg fun ⟨below, reached⟩ => by rcases h with rfl | h <;> omega

theorem segmentDown_of_stands {s : Nat} (h : DownStands set t s) : ∀ n, segmentDown set t n s = s
  | 0 => rfl
  | n + 1 => if_neg fun ⟨above, left⟩ => by rcases h with rfl | h <;> omega

/-- With moves enough to reach 8 the segment goes up until no upward move acts. -/
theorem segmentUp_stands : ∀ {n s : Nat}, s ≤ 8 → 8 ≤ s + n →
    s ≤ segmentUp set t n s ∧ segmentUp set t n s ≤ 8 ∧ UpStands set t (segmentUp set t n s)
  | 0, s, top, enough => ⟨le_rfl, top, .inl (by simp only [segmentUp]; omega)⟩
  | n + 1, s, top, enough => by
    by_cases h : s < 8 ∧ pointTemp set (s + 1) ≤ t
    · obtain ⟨above, high, stands⟩ := segmentUp_stands (n := n) (s := s + 1) (by omega) (by omega)
      rw [segmentUp, if_pos h]
      exact ⟨by omega, high, stands⟩
    · rw [segmentUp, if_neg h]
      exact ⟨le_rfl, top, by unfold UpStands; omega⟩

/-- With moves enough to reach 1 the segment goes down until no downward move acts; each move leaves a point above `T`, so
no upward move acts either. -/
theorem segmentDown_stands : ∀ {n s : Nat}, 1 ≤ s → s ≤ n + 1 → UpStands set t s →
    1 ≤ segmentDown set t n s ∧ segmentDown set t n s ≤ s ∧ UpStands set t (segmentDown set t n s) ∧
      DownStands set t (segmentDown set t n s)
  | 0, s, bottom, enough, up => ⟨bottom, le_rfl, up, .inl (by simp only [segmentDown]; omega)⟩
  | n + 1, s, bottom, enough, up => by
    by_cases h : 1 < s ∧ t < pointTemp set s - set.control.hysteresis
    · have left : UpStands set t (s - 1) := .inr (by rw [Nat.sub_add_cancel bottom]; omega)
      obtain ⟨low, below, stands⟩ := segmentDown_stands (n := n) (s := s - 1) (by omega) (by omega) left
      rw [segmentDown, if_pos h]
      exact ⟨low, by omega, stands⟩
    · rw [segmentDown, if_neg h]
      exact ⟨bottom, le_rfl, up, by unfold DownStands; omega⟩

theorem moveSegment_stands {x : Nat} (low : 1 ≤ x) (high : x ≤ 8) :
    1 ≤ moveSegment set t x ∧ moveSegment set t x ≤ 8 ∧ UpStands set t (moveSegment set t x) ∧
      DownStands set t (moveSegment set t x) := by
  obtain ⟨above, top, up⟩ := segmentUp_stands (set := set) (t := t) high (n := 8) (by omega)
  obtain ⟨bottom, below, stands⟩ := segmentDown_stands (n := 8) (by omega) (by omega) up
  exact ⟨bottom, below.trans top, stands⟩

theorem moveSegment_of_stands {x : Nat} (up : UpStands set t x) (down : DownStands set t x) : moveSegment set t x = x := by
  rw [moveSegment, segmentUp_of_stands up, segmentDown_of_stands down]

/-! ### The segment set afresh (R55, R57) -/

/-- The highest of the points 1 to n at or below `t`, or 1. -/
def highestReached (set : CalSet) (t : Int) : Nat → Nat
  | 0 => 1
  | n + 1 => if pointTemp set (n + 1) ≤ t then n + 1 else highestReached set t n

theorem foldl_eq_highestReached : ∀ n,
    (List.range (n + 1)).foldl (fun best i => if 1 ≤ i ∧ pointTemp set i ≤ t then i else best) 1 = highestReached set t n
  | 0 => rfl
  | n + 1 => by
    rw [List.range_succ, List.foldl_append, foldl_eq_highestReached n]
    simp [highestReached]

theorem highestReached_spec : ∀ n, 1 ≤ highestReached set t n ∧ highestReached set t n ≤ max 1 n ∧
    (∀ i, highestReached set t n < i → i ≤ n → t < pointTemp set i) ∧
    (highestReached set t n = 1 ∨ pointTemp set (highestReached set t n) ≤ t)
  | 0 => ⟨le_rfl, le_rfl, fun i hi hn => by rw [highestReached] at hi; omega, .inl rfl⟩
  | n + 1 => by
    rw [highestReached]
    split
    next reached => exact ⟨by omega, by omega, by omega, .inr reached⟩
    next unreached =>
      obtain ⟨low, high, above, point⟩ := highestReached_spec n
      refine ⟨low, by omega, fun i hi hn => ?_, point⟩
      rcases hn.eq_or_lt with rfl | hn
      · exact not_le.mp unreached
      · exact above i hi (by omega)

theorem freshSegment_eq (set : CalSet) (t : Int) : freshSegment set t = highestReached set t 8 := by
  rw [freshSegment, foldl_eq_highestReached]
  exact max_eq_right (highestReached_spec 8).1

end segment

/-! ### The target and the applied factor (R51, R52) -/

theorem targetFactor_eq (set : CalSet) (t : Int) (s : Nat) : targetFactor set t s =
    if set.control.mode = .step then pointFactor set s else (interpolate (tempPoints set) t).toNat := by
  cases h : set.control.mode <;> simp [targetFactor, h]

theorem updateLaneTemp_segment (set : CalSet) (probes : Quad Probe) (e : LaneEntry) (x : LaneTemp) :
    (updateLaneTemp set probes e x).segment =
      if set.control.mode = .step then moveSegment set (updateLaneTemp set probes e x).temp x.segment else x.segment := by
  cases h : set.control.mode <;> simp [updateLaneTemp, h]

section applied

variable (c : TempControls) {target applied : Nat}

theorem moveApplied_self (applied : Nat) : moveApplied c applied applied = applied := by simp [moveApplied]

theorem moveApplied_up (h : applied < target) :
    moveApplied c target applied = if c.jumpUp = true then target else min target (applied + c.rate) := if_pos h

theorem moveApplied_down (h : target < applied) :
    moveApplied c target applied = if c.jumpDown = true then target else max target (applied - c.rate) := by
  rw [moveApplied, if_neg h.not_gt, if_pos h]

theorem moveApplied_between (target applied : Nat) :
    min applied target ≤ moveApplied c target applied ∧ moveApplied c target applied ≤ max applied target := by
  rcases lt_trichotomy applied target with h | rfl | h
  · rw [moveApplied_up c h]
    split <;> omega
  · simp [moveApplied_self]
  · rw [moveApplied_down c h]
    split <;> omega

end applied

/-- Settles O15: the segment's moves end where none acts, and a lane's update and its fresh setting part by part. -/
theorem laneTemperatureUpdate : Obligations.LaneTemperatureUpdate := by
  refine ⟨fun set t x low high => ?_, fun set probes e x => ?_, fun set probes e => ?_⟩
  · obtain ⟨bottom, top, up, down⟩ := moveSegment_stands (set := set) (t := t) low high
    exact ⟨bottom, top, up, down, moveSegment_of_stands⟩
  · intro r c
    have applied : r.applied = moveApplied c r.target x.applied := rfl
    refine ⟨rfl, updateLaneTemp_segment .., targetFactor_eq .., fun h => ?_, fun h => applied.trans (moveApplied_up c h),
      fun h => applied.trans (moveApplied_down c h), moveApplied_between c r.target x.applied⟩
    rw [applied, h, moveApplied_self]
  · intro r
    have segment : r.segment = highestReached set r.temp 8 := freshSegment_eq ..
    obtain ⟨low, high, above, point⟩ := highestReached_spec (set := set) (t := r.temp) 8
    rw [← segment] at low high above point
    exact ⟨rfl, low, high, above, point, targetFactor_eq .., rfl⟩

end Sys2Proof.Machine
end

section
/-! Row wheel, wheel and axle loads (R64 to R68): O21; and the record of a closing vehicle (R72, R88 to R90, R109): O28. -/

namespace Sys2Proof.Machine

/-! ### Rounding half up -/

/-- With an even divisor, half of it is added before the division (R64, R67). -/
theorem roundHalfUp_two_mul (n k : Nat) : roundHalfUp n (2 * k) = (n + k) / (2 * k) := by
  rw [roundHalfUp, ← mul_add, Nat.mul_div_mul_left _ _ two_pos]

/-- A rounded quotient lies between the whole numbers that the quotient lies between. -/
theorem roundHalfUp_between {n d lo hi : Nat} (hd : 0 < d) (low : d * lo ≤ n) (high : n ≤ d * hi) :
    lo ≤ roundHalfUp n d ∧ roundHalfUp n d ≤ hi := by
  unfold roundHalfUp
  refine ⟨(Nat.le_div_iff_mul_le (by omega)).mpr ?_, Nat.le_of_lt_succ ((Nat.div_lt_iff_lt_mul (by omega)).mpr ?_)⟩
  · calc lo * (2 * d) = 2 * (d * lo) := by ring
      _ ≤ 2 * n + d := by omega
  · calc 2 * n + d < 2 * (d * hi) + 2 * d := by omega
      _ = (hi + 1) * (2 * d) := by ring

/-! ### Loads (R64 to R68) -/

theorem stagedLoad_eq (area v gain ft fs : Nat) :
    stagedLoad area v gain ft fs =
      (((((area * v + 32768) / 65536 * gain + 2048) / 4096) * ft + 8192) / 16384 * fs + 8192) / 16384 := by
  have half (n k : Nat) := roundHalfUp_two_mul n k
  simp only [stagedLoad, half _ 32768, half _ 2048, half _ 8192]

theorem wheelLoad_le {bound : Nat} {rows : List Nat} {x : Nat} (rows_le : ∀ y ∈ rows, y ≤ bound)
    (h : wheelLoad rows = some x) : x ≤ bound := by
  match rows, h with
  | [y], h =>
    obtain rfl : y = x := Option.some.inj h
    exact rows_le y (by simp)
  | y :: z :: _, h =>
    obtain rfl : roundHalfUp (y + z) 2 = x := Option.some.inj h
    have hy := rows_le y (by simp)
    have hz := rows_le z (by simp)
    exact (roundHalfUp_between (lo := 0) two_pos (by omega) (by omega)).2

theorem axleLoad_le {bound : Nat} {right left : Option Nat} (hr : ∀ x, right = some x → x ≤ bound)
    (hl : ∀ x, left = some x → x ≤ bound) : axleLoad right left ≤ 2 * bound := by
  match right, left with
  | some r, some l => exact two_mul bound ▸ Nat.add_le_add (hr r rfl) (hl l rfl)
  | some r, none => exact Nat.mul_le_mul_left 2 (hr r rfl)
  | none, some l => exact Nat.mul_le_mul_left 2 (hl l rfl)
  | none, none => exact Nat.zero_le _

/-- Settles O21: each stage's divisor is even, and no wheel load exceeds its row loads. -/
theorem axleLoadArithmetic : Obligations.AxleLoadArithmetic := by
  refine ⟨fun set v ft fs w => ?staged, fun x y => ?mean, fun _ => rfl, rfl, fun _ _ => rfl, fun _ => rfl, fun _ => rfl,
    fun rs ls hr hl => ⟨?_, fun _ => wheelLoad_le hr⟩⟩
  case staged =>
    intro p w0 w1 w2
    have stages : rowLoad set v ft fs w = (min w2 32767, decide (32767 < w2)) :=
      congrArg (fun x => (min x 32767, decide (32767 < x))) (stagedLoad_eq ..)
    rw [stages]
    refine ⟨fun within => ?_, fun above => ?_⟩
    · rw [min_eq_left within, decide_eq_false (not_lt.mpr within)]
    · rw [min_eq_right above.le, decide_eq_true above]
  case mean => exact congrArg some (roundHalfUp_two_mul (x + y) 1)
  · exact axleLoad_le (fun _ => wheelLoad_le hr) (fun _ => wheelLoad_le hl)

/-! ### Speed and gross load of a vehicle (R72, R88) -/

theorem vehicleSpeed_between {axles : List Axle} (some_axle : axles ≠ []) {lo hi : Nat}
    (h : ∀ v ∈ axles.map (·.speed), lo ≤ v ∧ v ≤ hi) : lo ≤ vehicleSpeed axles ∧ vehicleSpeed axles ≤ hi := by
  have low := List.card_nsmul_le_sum (axles.map (·.speed)) lo fun v hv => (h v hv).1
  have high := List.sum_le_card_nsmul (axles.map (·.speed)) hi fun v hv => (h v hv).2
  rw [List.length_map, smul_eq_mul] at low high
  exact roundHalfUp_between (List.length_pos_iff.mpr some_axle) low high

/-- Speeds vary where some two of them lie further apart than the limit allows (R88). -/
theorem speedVaries_iff {limit : Nat} {axles : List Axle} (some_axle : axles ≠ []) :
    speedVaries limit axles = true ↔ ∃ i ∈ axles.map (·.speed), ∃ j ∈ axles.map (·.speed),
      vehicleSpeed axles * limit < (i - j) * 1000 := by
  have some_speed : axles.map (·.speed) ≠ [] := by simpa
  simp only [speedVaries, decide_eq_true_eq]
  generalize vehicleSpeed axles * limit = bound
  generalize axles.map (·.speed) = speeds at some_speed ⊢
  have top : speeds.foldl max 0 = speeds.max some_speed := by simp [List.foldl_max_eq_max some_speed]
  have bottom : speeds.foldl min (speeds.max some_speed) = speeds.min some_speed := by
    rw [List.foldl_min_eq_min some_speed]
    exact min_eq_right (List.min_le_of_mem (List.max_mem some_speed))
  rw [top, bottom]
  refine ⟨fun h => ⟨_, List.max_mem some_speed, _, List.min_mem some_speed, h⟩, fun ⟨i, hi, j, hj, h⟩ => h.trans_le ?_⟩
  exact Nat.mul_le_mul_right 1000 (tsub_le_tsub (List.le_max_of_mem hi) (List.min_le_of_mem hj))

/-- The loads of 16 axles stay below the largest gross load (R72). -/
theorem grossLoad_eq_sum {axles : List Axle} (count : axles.length ≤ 16) (loads : ∀ a ∈ axles, a.load ≤ 65534) :
    grossLoad axles = (axles.map (·.load)).sum := by
  have sum_le := List.sum_le_card_nsmul (axles.map (·.load)) 65534 (List.forall_mem_map.mpr loads)
  rw [List.length_map, smul_eq_mul] at sum_le
  have within : (axles.map (·.load)).sum ≤ maxGross := sum_le.trans (by unfold maxGross; omega)
  rw [grossLoad, min_eq_left within]

/-! ### Flags of a vehicle (R89) -/

theorem getLsbD_flagUnion (fs : List Flags) (i : Nat) : (flagUnion fs).getLsbD i = fs.any (·.getLsbD i) := by
  have from_any (acc : Flags) : (fs.foldl (· ||| ·) acc).getLsbD i = (acc.getLsbD i || fs.any (·.getLsbD i)) := by
    induction fs generalizing acc with
    | nil => simp
    | cons f fs ih => simp [ih, Bool.or_assoc]
  simpa [flagUnion] using from_any 0

/-- The flags of a closing vehicle, bit by bit: those of its closure and its axles, and its own (R89, 11.3). -/
theorem getLsbD_vehicleFlags (s : State) (c : Context) (cause : Flags) (i : Nat) :
    (vehicleFlags s c cause).getLsbD i =
      ((cause.getLsbD i || c.axles.any fun a => a.flags.getLsbD i) ||
       (c.channelHeld && decide (3 = i)) ||
       (decide (maxGross < (c.axles.map (·.load)).sum) && decide (8 = i)) ||
       (speedVaries s.set.site.speedVariation c.axles && decide (10 = i)) ||
       (!c.presenceSeen && decide (11 = i)) ||
       (decide (s.cc.revision = 0) && decide (12 = i)) ||
       (c.calChanged && decide (13 = i)) ||
       (c.continuation && decide (14 = i))) := by
  have held (x : Bool) := getLsbD_flagIf (f := Flag.channelHeld) (i := 3) rfl x (by decide) i
  have load (x : Bool) := getLsbD_flagIf (f := Flag.loadSat) (i := 8) rfl x (by decide) i
  have variation (x : Bool) := getLsbD_flagIf (f := Flag.speedVariation) (i := 10) rfl x (by decide) i
  have presence (x : Bool) := getLsbD_flagIf (f := Flag.noPresence) (i := 11) rfl x (by decide) i
  have uncalibrated (x : Bool) := getLsbD_flagIf (f := Flag.uncalibrated) (i := 12) rfl x (by decide) i
  have changed (x : Bool) := getLsbD_flagIf (f := Flag.calChanged) (i := 13) rfl x (by decide) i
  have continuation (x : Bool) := getLsbD_flagIf (f := Flag.continuation) (i := 14) rfl x (by decide) i
  have axles : (flagUnion (c.axles.map (·.flags))).getLsbD i = c.axles.any fun a => a.flags.getLsbD i := by
    rw [getLsbD_flagUnion, List.any_map]
    rfl
  simp only [vehicleFlags, BitVec.getLsbD_or, axles, held, load, variation, presence, uncalibrated, changed, continuation]
  ac_rfl

/-- Settles O28: the parts by the record's definition, the flags bit by bit. -/
theorem recordOfVehicle : Obligations.RecordOfVehicle := by
  intro s l c cause some_axle x speeds e mark
  have bits (i : Nat) := getLsbD_vehicleFlags s c cause i
  refine ⟨rfl, rfl, rfl, rfl, rfl, fun lo hi => vehicleSpeed_between some_axle, grossLoad_eq_sum, rfl, rfl, rfl, rfl, rfl,
    rfl, rfl, fun t ft first => ?copied, fun i hi => (bits i).trans ?joined, (bits 3).trans ?_, (bits 8).trans ?grossHeld,
    ?variation, (bits 11).trans ?_, (bits 12).trans ?_, (bits 13).trans ?_, (bits 14).trans ?_⟩
  case copied => simp [x, vehicleRecord, first]
  case joined =>
    have apart : ∀ j ∈ [0, 1, 2, 4, 5, 6, 7, 9, 15, 16, 17], ∀ own ∈ [3, 8, 10, 11, 12, 13, 14], own ≠ j := by decide
    have unowned := apart i hi
    simp only [List.forall_mem_cons] at unowned
    simp [mark, unowned]
  case variation =>
    have varies : x.flags.getLsbD 10 = (mark 10 || speedVaries s.set.site.speedVariation c.axles) :=
      (bits 10).trans (by simp [mark])
    rw [varies, Bool.or_eq_true, speedVaries_iff some_axle]
    rfl
  case grossHeld =>
    unfold maxGross
    simp [mark]
  all_goals simp [mark]

end Sys2Proof.Machine
end

section
/-! Vehicles: an axle opens, joins, splits or truncates (R77 to R82, R163), a closure with its ghost or record (R75, R86,
R87, R164), the two timers (R84, R85), and the lane's trigger (R109 to R115): O23, O24, O26 and O27. -/

namespace Sys2Proof.Machine

/-! ### The lane under test -/

theorem lane_ne_of_testLane {s : State} {l : Lane} {x : TestContext} (test : s.ltg.test = some x)
    (other : s.testLane ≠ some l) : x.lane ≠ l := fun same => other (by rw [State.testLane, test, ← same]; rfl)

/-- The vehicle-opened mark of the test on its own lane (R163). -/
theorem markVehicleOpened_testing {s : State} {l : Lane} {x : TestContext} (test : s.ltg.test = some x) (lane : x.lane = l) :
    markVehicleOpened l s = { s with ltg := { s.ltg with test := some { x with vehicleOpened := true } } } := by
  unfold markVehicleOpened
  rw [test]
  exact if_pos lane

theorem markVehicleOpened_other {s : State} {l : Lane} (other : s.testLane ≠ some l) : markVehicleOpened l s = s := by
  unfold markVehicleOpened
  split
  · exact if_neg (lane_ne_of_testLane ‹_› other)
  · rfl

/-! ### Axles (R77 to R82) -/

/-- The spacing between two axles with the rounding written out (R78). -/
theorem axleSpacing_eq (last new : Axle) : axleSpacing last new =
    (2 * ((last.speed + new.speed + 1) / 2 * (new.time - last.time).toNat) + 163840) / 327680 := by
  have mean : roundHalfUp (last.speed + new.speed) 2 = (last.speed + new.speed + 1) / 2 := roundHalfUp_two_mul _ 1
  rw [axleSpacing, mean]
  rfl

section arrival
variable {s : State} {l : Lane} (a : Axle)

theorem axleArrives_empty (empty : (s.context l).state = .empty) : axleArrives l a s = openByAxle l a none false s :=
  if_pos empty

theorem axleArrives_first (holds : (s.context l).state ≠ .empty) (first : (s.context l).axles = []) :
    axleArrives l a s = appendAxle l { a with spacing := none } s := by
  unfold axleArrives
  dsimp only
  rw [if_neg holds, first]
  rfl

/-- The decision on an axle that reaches a vehicle with axles (R79, R80, R81). -/
theorem axleArrives_next {last : Axle} (holds : (s.context l).state ≠ .empty)
    (has : (s.context l).axles.getLast? = some last) : axleArrives l a s =
      if timeDiff a.time last.time ≤ 0 ∨ s.set.site.splitDistance < axleSpacing last a then closeAndReopen l a 0 false s
      else if 16 ≤ (s.context l).axles.length then closeAndReopen l a Flag.truncated true s
      else appendAxle l { a with spacing := some (axleSpacing last a) } s := by
  unfold axleArrives
  dsimp only
  rw [if_neg holds, has]

end arrival

/-- Settles O23: an axle opens a vehicle, is its first, or is in order, within the split distance and has room. -/
theorem axleOpensOrJoins : Obligations.AxleOpensOrJoins := by
  refine ⟨fun s l => ⟨fun x => markVehicleOpened_testing, markVehicleOpened_other⟩, fun s l a => ?_⟩
  intro c delay
  refine ⟨fun empty => ?_, fun holds first => ?_, fun last holds has after => ?_⟩
  · rw [axleArrives_empty a empty, openByAxle, openVehicle]
    simp only [Option.isSome_none, Bool.or_false]
    rfl
  · rw [axleArrives_first a holds first, appendAxle, if_pos first, first]
    rfl
  · intro spacing within room
    have spaced : axleSpacing last a = spacing := axleSpacing_eq last a
    have some_axle : (s.context l).axles ≠ [] := fun none => by rw [none] at has; cases has
    have joins : ¬(timeDiff a.time last.time ≤ 0 ∨ s.set.site.splitDistance < spacing) := by omega
    rw [axleArrives_next a holds has, spaced, if_neg joins, if_neg (not_le.mpr room), appendAxle, if_neg some_axle]
    rfl

/-- Settles O24: split comes before truncation, and the new vehicle takes the successor's parts. -/
theorem splitAndTruncation : Obligations.SplitAndTruncation := by
  intro s l a last c reopen holds has
  have reopens (cause : Flags) (continuation : Bool) :
      closeAndReopen l a cause continuation s = reopen cause continuation := by
    unfold closeAndReopen openByAxle openVehicle
    dsimp only [reopen, c]
    cases (s.context l).successor <;> rfl
  refine ⟨fun apart => ?_, fun after within full => ?_⟩
  · rw [axleArrives_next a holds has, if_pos apart, reopens]
  · have inside : ¬(timeDiff a.time last.time ≤ 0 ∨ s.set.site.splitDistance < axleSpacing last a) := by omega
    rw [axleArrives_next a holds has, if_neg inside, if_pos full, reopens]

/-! ### Timers (R84, R85) -/

/-- Settles O26: the timer's condition holds, so the vehicle closes and a pending successor opens. -/
theorem vehicleTimersClose : Obligations.VehicleTimersClose := by
  intro s l live c follow
  have opens (u : State) : openSuccessor l (s.context l).successor u = follow u := by
    unfold openSuccessor
    dsimp only [follow, c]
    cases (s.context l).successor <;> rfl
  refine ⟨fun t closing running past => ?_, fun holds long => ?_⟩
  · have due : closeDelayDue s l = true := by
      unfold closeDelayDue
      rw [closing, running]
      exact past
    rw [← opens]
    exact onLive_whenever live (b := fun s => closeDelayDue s l) (f := fun s => noteEmptied (closeDelayExpires l s)) due
  · have due : durationDue s l = true := by
      simp only [durationDue, Bool.and_eq_true]
      exact ⟨decide_eq_true holds, decide_eq_true long⟩
    intro u
    have expires : exec (.durationExpiry l) s = .next (noteEmptied (durationExpires l s)) :=
      onLive_whenever live (b := fun s => durationDue s l) (f := fun s => noteEmptied (durationExpires l s)) due
    have limit (u : State) (t : Time) :
        durationReached u t = true ↔ u.set.site.maxDuration * 16384 ≤ (u.now - t).toNat := decide_eq_true_iff
    rw [expires, durationExpires, opens]
    simp only [limit]
    rfl

/-! ### Closure (R75, R86, R87, R164) -/

theorem startTrigger_eq (l : Lane) (s : State) : startTrigger l s =
    ((s.withTrigger l (some (s.now + BitVec.ofNat 32 ((2 * (s.set.site.triggerWidth * 16384) + 1000) / 2000)))
      ).countTrigger l) := rfl

/-- A closing vehicle's record is committed, an ENFORCEABLE one has started the trigger, and the context is EMPTY; a test
on the lane has not ended yet. -/
def recordedClosure (l : Lane) (cause : Flags) (s : State) : State :=
  let x := vehicleRecord s l (s.context l) cause
  (if x.alert = .enforceable then startTrigger l (commitRecord x s) else commitRecord x s).withContext l emptyContext

theorem recordedClosure_ltg (l : Lane) (cause : Flags) (s : State) : (recordedClosure l cause s).ltg = s.ltg := by
  unfold recordedClosure
  dsimp only
  split <;> simp

/-- The pulse of a closure is one width from its tick: the commit leaves time and active set (R110, R111). -/
theorem startTrigger_commitRecord (l : Lane) (x : Record) (s : State) : startTrigger l (commitRecord x s) =
    (((commitRecord x s).withTrigger l
      (some (s.now + BitVec.ofNat 32 ((2 * (s.set.site.triggerWidth * 16384) + 1000) / 2000)))).countTrigger l) := by
  have now : (commitRecord x s).now = s.now := congrArg Clock.now (commitRecord_clock x s)
  have set : (commitRecord x s).set = s.set := congrArg Cc.active (commitRecord_cc x s)
  rw [startTrigger_eq, now, set]

theorem closeVehicle_ghost {s : State} {l : Lane} (cause : Flags) (no_axle : (s.context l).axles = []) :
    closeVehicle l cause s = (s.withContext l emptyContext).countGhost l := if_pos no_axle

theorem closeVehicle_record {s : State} {l : Lane} (cause : Flags) (some_axle : (s.context l).axles ≠ []) :
    closeVehicle l cause s = finishTest l (s.context l).axles s.rr.next (recordedClosure l cause s) := if_neg some_axle

theorem finishTest_other {s : State} {l : Lane} (axles : List Axle) (seq : Seq) (other : s.testLane ≠ some l) :
    finishTest l axles seq s = s := by
  unfold finishTest
  split
  · exact if_neg (lane_ne_of_testLane ‹_› other)
  · rfl

theorem finishTest_testing {s : State} {l : Lane} {x : TestContext} (axles : List Axle) (seq : Seq)
    (test : s.ltg.test = some x) (lane : x.lane = l) :
    finishTest l axles seq s = completeTest x (testRatio x axles) (some seq) s := by
  unfold finishTest
  rw [test]
  exact if_pos lane

/-- A supplied trigger output stands at the active level of its polarity exactly while the trigger is PULSING (R110). -/
theorem triggerOutput_powered {s : State} (l : Lane) (on : s.powered = true) : triggerOutput s l =
    let high := decide ((s.set.lanes.get l).triggerPolarity = .activeHigh)
    if (s.cle.triggers.get l).isSome then high else !high := by
  unfold triggerOutput
  rw [if_neg (by simp [on])]
  cases (s.set.lanes.get l).triggerPolarity <;> cases s.cle.triggers.get l <;> rfl

/-- Settles O27: a ghost, or a record with its trigger and then the lane's test; the trigger's output follows its pulse and
its polarity. -/
theorem vehicleClosesAndTriggers : Obligations.VehicleClosesAndTriggers := by
  refine ⟨fun s l cause => ?closes, fun s l => rfl, fun s l t live pulsing past => ?ends, fun s l => ?output⟩
  case closes =>
    intro c
    refine ⟨closeVehicle_ghost cause, fun some_axle other => ?_, fun y some_axle test lane => ?_⟩
    · intro x u
      have stays : (recordedClosure l cause s).testLane ≠ some l := by
        rw [State.testLane, recordedClosure_ltg]
        exact other
      rw [closeVehicle_record cause some_axle, finishTest_other _ _ stays, ← startTrigger_commitRecord]
      rfl
    · intro x u
      have stays : (recordedClosure l cause s).ltg.test = some y := by rw [recordedClosure_ltg, test]
      rw [closeVehicle_record cause some_axle, finishTest_testing _ _ stays lane, ← startTrigger_commitRecord]
      rfl
  case ends =>
    have due : triggerDue s l = true := by
      unfold triggerDue
      rw [pulsing]
      exact past
    exact onLive_whenever live (b := fun s => triggerDue s l) (f := fun s => s.withTrigger l none) due
  case output =>
    intro high
    refine ⟨fun t on pulsing => ?_, fun on idle => ?_, fun off => if_pos off⟩
    · rw [triggerOutput_powered l on, pulsing]
      rfl
    · rw [triggerOutput_powered l on, idle]
      rfl

end Sys2Proof.Machine
end

section
/-! Presence events (R73, R74, R83, R167): O25. -/

namespace Sys2Proof.Machine

/-! ### The input moved -/

section input
variable (s : State) (l : Lane)

theorem presenceTo_true : presenceTo l true s =
    s.withPresence l (decide ((s.set.lanes.get l).presencePolarity = .activeHigh)) := by
  unfold presenceTo
  cases (s.set.lanes.get l).presencePolarity <;> rfl

theorem presenceTo_false : presenceTo l false s =
    s.withPresence l (decide ((s.set.lanes.get l).presencePolarity ≠ .activeHigh)) := by
  unfold presenceTo
  cases (s.set.lanes.get l).presencePolarity <;> rfl

theorem readsOccupied_presenceTo (occupied : Bool) : (presenceTo l occupied s).readsOccupied l = occupied := by
  have set : (presenceTo l occupied s).set = s.set := rfl
  rw [State.readsOccupied, set, presenceTo]
  cases (s.set.lanes.get l).presencePolarity <;> simp [State.withPresence]

end input

/-! ### Occupancy on a live device -/

section live
variable {s : State} {l : Lane} (live : Live s) (started : s.clock.started = true)
include live started

/-- PRESENCE_OCCUPIED on a lane that is neither CLOSED nor occupied (R73). -/
theorem presenceOccupied_live (mode : s.mode l ≠ .closed) (free : s.isOccupied l = false) :
    exec (.presenceOccupied l) s = .next (noteEmptied (takeOccupied l (presenceTo l true s))) := by
  have due : occupiedDue (presenceTo l true s) l = true := by
    rw [occupiedDue, readsOccupied_presenceTo]
    simp [takesPresence, presenceTo, started, mode, free]
  refine (onLive_live live fun s => eventOccupied l (presenceTo l true s)).trans ?_
  rw [eventOccupied, due]
  rfl

/-- PRESENCE_RELEASED on an occupied lane that is not CLOSED (R73). -/
theorem presenceReleased_live (mode : s.mode l ≠ .closed) (occupied : s.isOccupied l = true) :
    exec (.presenceReleased l) s = .next (takeReleased l (presenceTo l false s)) := by
  have due : releasedDue (presenceTo l false s) l = true := by
    rw [releasedDue, readsOccupied_presenceTo]
    simp [takesPresence, presenceTo, started, mode, occupied]
  refine (onLive_live live fun s => eventReleased l (presenceTo l false s)).trans ?_
  rw [eventReleased, due]
  rfl

end live

theorem presence_closed {s : State} {l : Lane} (live : Live s) (mode : s.mode l = .closed) :
    exec (.presenceReleased l) s = .next (presenceTo l false s) ∧
    exec (.presenceOccupied l) s = .next (presenceTo l true s) := by
  have ignored (occupied : Bool) : takesPresence (presenceTo l occupied s) l = false := by
    simp [takesPresence, presenceTo, mode]
  refine ⟨(onLive_live live fun s => eventReleased l (presenceTo l false s)).trans ?_,
    (onLive_live live fun s => eventOccupied l (presenceTo l true s)).trans ?_⟩
  · simp [eventReleased, releasedDue, ignored, whenever_false]
  · simp [eventOccupied, occupiedDue, ignored, whenever_false]

/-- While a lane holds a vehicle, no activation is due (R151). -/
theorem noteEmptied_holding {s : State} {l : Lane} (holds : (s.context l).state ≠ .empty) : noteEmptied s = s := by
  have not_all : allEmpty s = false := List.all_eq_false.mpr ⟨l, Ix4.mem_all l, by simp [holds]⟩
  rw [noteEmptied, not_all, Bool.and_false]
  rfl

/-! ### OCCUPIED by the context's state (R83) -/

theorem abortTestOn_other {s : State} {l : Lane} (other : s.testLane ≠ some l) : abortTestOn l s = s := if_neg other

/-- OCCUPIED on an EMPTY context opens a vehicle, after the abort of a test on the lane. -/
theorem takeOccupied_opens {s u : State} {l : Lane} (aborted : abortTestOn l s = u) (other : u.testLane ≠ some l)
    (empty : (u.context l).state = .empty) : takeOccupied l s =
      (u.withOccupied l (some u.now)).withContext l { openedNow u with channelHeld := u.laneHeld l } := by
  have opens : openByPresence l u.now u.siteClock (u.withOccupied l (some u.now)) =
      (u.withOccupied l (some u.now)).withContext l { openedNow u with channelHeld := u.laneHeld l } := by
    unfold openByPresence openVehicle
    rw [markVehicleOpened_other (by exact other)]
    simp only [State.isOccupied_withOccupied, if_true, Option.isSome_some]
    rfl
  unfold takeOccupied
  rw [aborted]
  dsimp only
  rw [State.context_withOccupied, empty]
  exact opens

section other
variable {s : State} {l : Lane} (other : s.testLane ≠ some l)
include other

theorem takeOccupied_opened (opened : (s.context l).state = .opened) : takeOccupied l s =
    (s.withOccupied l (some s.now)).withContext l { s.context l with presenceSeen := true } := by
  unfold takeOccupied
  rw [abortTestOn_other other]
  dsimp only
  rw [State.context_withOccupied, opened]

/-- OCCUPIED on a CLOSING context: its own vehicle again, its successor, or one more of a pending successor. -/
theorem takeOccupied_closing (closing : (s.context l).state = .closing) : takeOccupied l s =
    if (s.context l).presenceSeen = false then (s.withOccupied l (some s.now)).withContext l
      { s.context l with state := .opened, presenceSeen := true, closeExpiry := none }
    else if (s.context l).successor = none then (s.withOccupied l (some s.now)).withContext l
      { s.context l with successor := some (s.now, s.siteClock) }
    else s.withOccupied l (some s.now) := by
  unfold takeOccupied
  rw [abortTestOn_other other]
  dsimp only
  rw [State.context_withOccupied, closing]
  rfl

end other

/-! ### RELEASED by the context's state (R83) -/

theorem takeReleased_opened {s : State} {l : Lane} (opened : (s.context l).state = .opened) : takeReleased l s =
    (s.withOccupied l none).withContext l { s.context l with state := .closing, closeExpiry := closeExpiryFrom s } := by
  unfold takeReleased
  dsimp only
  rw [State.context_withOccupied, opened]
  rfl

theorem takeReleased_other {s : State} {l : Lane} (other : (s.context l).state ≠ .opened) :
    takeReleased l s = s.withOccupied l none := by
  unfold takeReleased
  dsimp only
  rw [State.context_withOccupied]
  split
  · exact absurd ‹_› other
  · rfl
  · rfl

/-! ### The abort of a test (R167) -/

theorem emptyCrossings_eq (l : Lane) (s : State) : emptyCrossings l s =
    { s with xf := { s.xf with pools := s.xf.pools.set l ⟨[], []⟩, queues := s.xf.queues.set l [] } } := by
  have pools : ((s.xf.pools.setRow l .a []).setRow l .b []) = s.xf.pools.set l ⟨[], []⟩ := by cases l <;> rfl
  rw [← pools]
  rfl

theorem discardHit_eq (c : Channel) :
    discardHit c = if c.state = .inHit then { c.clearHit with state := .idle } else c := rfl

theorem discardHit_held (c : Channel) : (discardHit c).state = .held ↔ c.state = .held := by
  rw [discardHit_eq]
  split <;> simp_all

/-- Hits discarded leave the lane's hold indication (R14, R167). -/
theorem laneHeld_discarded (s : State) (l : Lane) :
    (s.withChannels fun c => if c.lane = l then discardHit (s.channel c) else s.channel c).laneHeld l = s.laneHeld l := by
  have same (c : ChannelId) : (if c.lane = l then discardHit (s.channel c) else s.channel c).state = .held ↔
      (s.channel c).state = .held := by
    split
    · exact discardHit_held _
    · rfl
  simp only [State.laneHeld, State.channel_withChannels, same]

/-- The device after the abort of a test on this lane: its hits, crossings and vehicle discarded, ABORTED recorded, the
lane OPEN, and MAINT raised (R167). -/
theorem abortTestOn_testing {s : State} {l : Lane} {x : TestContext} (test : s.ltg.test = some x) (lane : x.lane = l) :
    abortTestOn l s = raised Notice.maint
      ((((emptyCrossings l (s.withChannels fun c => if c.lane = l then discardHit (s.channel c) else s.channel c)).withContext
        l emptyContext).withResult ⟨l, x.pattern, .aborted, s.siteClock, none, none⟩).withMode l .opened) := by
  have testing : s.testLane = some l := by rw [State.testLane, test, ← lane]; rfl
  subst lane
  unfold abortTestOn abortTest
  rw [if_pos testing, test]
  dsimp only
  rw [raiseAll_eq_raised, forLaneChannels_eq]
  rfl

/-! ### The events -/

/-- Settles O25: the occupancy begins or ends, and the context acts by its state; on the test lane the abort leaves an
EMPTY context, in which the occupancy opens a vehicle. -/
theorem presenceEventsAct : Obligations.PresenceEventsAct := by
  refine ⟨fun s l live started mode other free => ?occupied, fun s l live started => ?released,
    fun s l x live started mode test lane free => ?aborted⟩
  case occupied =>
    intro c high u
    have taken : exec (.presenceOccupied l) s = .next (noteEmptied (takeOccupied l (s.withPresence l high))) := by
      rw [presenceOccupied_live live started (by rw [mode]; nofun) free, presenceTo_true]
    have result {t : State} (acts : takeOccupied l (s.withPresence l high) = t) (holds : (t.context l).state ≠ .empty) :
        exec (.presenceOccupied l) s = .next t := by
      rw [taken, acts, noteEmptied_holding holds]
    have acts := takeOccupied_closing (s := s.withPresence l high) other
    refine ⟨fun empty => result (takeOccupied_opens (abortTestOn_other other) other empty) ?_,
      fun opened => result (takeOccupied_opened other opened) ?_, fun closing unseen => ?_, fun closing seen alone => ?_,
      fun closing seen pending => ?_⟩
    · rw [State.context_withContext_self]
      nofun
    · rw [State.context_withContext_self]
      exact fun empty => nomatch opened.symm.trans empty
    · refine result ((acts closing).trans (if_pos unseen)) ?_
      rw [State.context_withContext_self]
      nofun
    · refine result ((acts closing).trans
        ((if_neg (ne_false_of_eq_true seen)).trans (if_pos alone))) ?_
      rw [State.context_withContext_self]
      exact fun empty => nomatch closing.symm.trans empty
    · refine result ((acts closing).trans
        ((if_neg (ne_false_of_eq_true seen)).trans (if_neg pending))) ?_
      exact fun empty => nomatch closing.symm.trans empty
  case released =>
    intro c u
    have moved : presenceTo l false s = u := presenceTo_false s l
    refine ⟨fun mode occupied opened => ?_, fun mode occupied other => ?_, fun mode => ?_⟩
    · rw [presenceReleased_live live started mode occupied, moved, takeReleased_opened (by exact opened)]
      rfl
    · rw [presenceReleased_live live started mode occupied, moved, takeReleased_other (by exact other)]
    · rw [← moved, ← presenceTo_true]
      exact presence_closed live mode
  case aborted =>
    rw [presenceOccupied_live live started (by rw [mode]; nofun) free, presenceTo_true]
    generalize decide ((s.set.lanes.get l).presencePolarity = .activeHigh) = high
    have aborted := abortTestOn_testing (s := s.withPresence l high) test lane
    have empty : ((abortTestOn l (s.withPresence l high)).context l).state = .empty := by
      rw [aborted]
      exact congrArg Context.state (Quad.get_set_self ..)
    have acts := takeOccupied_opens rfl (by rw [aborted]; nofun) empty
    have held : (abortTestOn l (s.withPresence l high)).laneHeld l = s.laneHeld l := by
      rw [aborted]
      exact laneHeld_discarded (s.withPresence l high) l
    rw [held, aborted, emptyCrossings_eq] at acts
    rw [acts, noteEmptied_holding (l := l) (by rw [State.context_withContext_self]; nofun)]
    refine ⟨_, rfl, rfl, fun c => ?channels, rfl, rfl, rfl, ?contexts, rfl, rfl, rfl, rfl, rfl, rfl, rfl⟩
    case channels =>
      refine (State.channel_withChannels ..).trans ?_
      rw [discardHit_eq, ite_and]
      rfl
    case contexts =>
      exact congrArg (fun contexts => { s.va with contexts, occupied := s.va.occupied.set l (some s.now) })
        (Quad.set_set s.va.contexts l emptyContext _)

end Sys2Proof.Machine
end

section
/-! The class walk (R99 to R101): O29. -/

namespace Sys2Proof.Machine

/-! ### One entry's rules -/

section class_entry
variable {e : ClassEntry} {n gross : Nat} {spacings : List Nat}

/-- A spacing that does not exist meets no present rule (R100). -/
theorem ruleMet_iff {j : Nat} {r : Option (Nat × Nat)} : ruleMet spacings j r = true ↔
    ∀ lo hi, r = some (lo, hi) → ∃ x, spacings[j]? = some x ∧ lo ≤ x ∧ x ≤ hi := by
  match r with
  | none => simp [ruleMet]
  | some (lo, hi) => cases h : spacings[j]? <;> simp [ruleMet, h]

theorem forall_ruleMet_iff {rules : List (Option (Nat × Nat))} :
    (∀ r j, (r, j) ∈ rules.zipIdx → ruleMet spacings j r = true) ↔
      ∀ (j lo hi : Nat), rules[j]? = some (some (lo, hi)) → ∃ x, spacings[j]? = some x ∧ lo ≤ x ∧ x ≤ hi := by
  simp only [List.mem_zipIdx_iff_getElem?, ruleMet_iff]
  constructor
  · exact fun met j lo hi rule => met _ j rule lo hi rfl
  · rintro met r j rule lo hi rfl
    exact met j lo hi rule

theorem classMatches_iff : classMatches e n spacings gross = true ↔
    e.enabled = true ∧ e.countMin ≤ n ∧ n ≤ e.countMax ∧
    (∀ (j : Nat) (lo hi : Nat), e.rules.toList[j]? = some (some (lo, hi)) →
      ∃ x, spacings[j]? = some x ∧ lo ≤ x ∧ x ≤ hi) ∧
    (∀ g, e.grossMin = some g → g ≤ gross) ∧ (∀ g, e.grossMax = some g → gross ≤ g) := by
  simp only [classMatches, Bool.and_eq_true, List.all_eq_true, Prod.forall, forall_ruleMet_iff,
    decide_eq_true_eq, and_assoc]
  cases e.grossMin <;> cases e.grossMax <;> simp

end class_entry

/-! ### The walk -/

section walk
variable {set : CalSet} {n gross : Nat} {spacings : List Nat}

theorem matchClass_first {i : Nat} {e : ClassEntry} (entry : set.classes.toList[i]? = some e)
    (hit : classMatches e n spacings gross = true)
    (first : ∀ (j : Nat) (d : ClassEntry), j < i → set.classes.toList[j]? = some d →
      ¬classMatches d n spacings gross = true) :
    matchClass set n spacings gross = (e.code, e.profile) := by
  obtain ⟨inside, rfl⟩ := List.getElem?_eq_some_iff.mp entry
  have found : set.classes.toList.find? (classMatches · n spacings gross) = some set.classes.toList[i] := by
    refine List.find?_eq_some_iff_getElem.mpr ⟨hit, i, inside, rfl, fun j below => ?_⟩
    simpa using first j _ below (List.getElem?_eq_getElem (below.trans inside))
  rw [matchClass, found]

theorem matchClass_none (missed : ∀ e ∈ set.classes.toList, ¬classMatches e n spacings gross = true) :
    matchClass set n spacings gross = (0, 0) := by
  have found : set.classes.toList.find? (classMatches · n spacings gross) = none := List.find?_eq_none.mpr missed
  rw [matchClass, found]

end walk

/-- Settles O29: an entry matches exactly when its rules are met, and the walk takes the first match. -/
theorem classWalk : Obligations.ClassWalk := by
  intro set n spacings gross met
  have matches_iff (e : ClassEntry) : classMatches e n spacings gross = true ↔ met e := classMatches_iff
  refine ⟨fun i e entry hit first => ?first, fun missed => ?none⟩
  case first =>
    exact matchClass_first entry ((matches_iff e).mpr hit)
      fun j d below other => mt (matches_iff d).mp (first j d below other)
  case none =>
    exact matchClass_none fun e entry => mt (matches_iff e).mp (missed e entry)

end Sys2Proof.Machine
end

section
/-! Axle groups (R102, R103): O30. -/

namespace Sys2Proof.Machine

/-! ### One group -/

/-- A group is a run of the axle list that stands apart from the axle before it (R102). -/
structure IsRun (d : Nat) (axles : List Axle) (g : Group) : Prop where
  pos    : 1 ≤ g.size
  load   : g.load = (((axles.drop (g.start - 1)).take g.size).map fun a => a.load).sum
  apart  : ∀ a x, axles[g.start - 1]? = some a → a.spacing = some x → d < x
  within : ∀ (j : Nat) (a : Axle) (x : Nat), g.start ≤ j → j + 1 < g.start + g.size → axles[j]? = some a →
    a.spacing = some x → x ≤ d

section run
variable {d n : Nat} {axles : List Axle} {a : Axle}

theorem isRun_single (axle : axles[n]? = some a) (apart : ∀ x, a.spacing = some x → d < x) :
    IsRun d axles ⟨n + 1, 1, a.load⟩ where
  pos := le_rfl
  load := by simp [List.take_one, axle]
  apart := by
    rintro b x (other : axles[n]? = some b) spacing
    obtain rfl : a = b := Option.some.inj (axle.symm.trans other)
    exact apart x spacing
  within j b x (after : n + 1 ≤ j) (before : j + 1 < n + 1 + 1) := by omega

theorem isRun_extend {g : Group} {x : Nat} (run : IsRun d axles g) (next : g.start + g.size = n + 1)
    (start : 1 ≤ g.start) (axle : axles[n]? = some a) (spacing : a.spacing = some x) (close : x ≤ d) :
    IsRun d axles ⟨g.start, g.size + 1, g.load + a.load⟩ where
  pos := by simp
  load := by
    have last : (axles.drop (g.start - 1))[g.size]? = some a := by
      rw [List.getElem?_drop, ← axle]
      congr 1
      omega
    simp [List.take_add_one, last, run.load]
  apart := run.apart
  within j b y (after : g.start ≤ j) (before : j + 1 < g.start + (g.size + 1)) other gap := by
    obtain rfl | inner : j = n ∨ j + 1 < g.start + g.size := by omega
    · obtain rfl : a = b := Option.some.inj (axle.symm.trans other)
      obtain rfl : x = y := Option.some.inj (spacing.symm.trans gap)
      exact close
    · exact run.within j b y after inner other gap

end run

theorem groupKind_of_pos {g : Group} (pos : 1 ≤ g.size) :
    groupKind g = if g.size = 1 then .single else if g.size = 2 then .tandem else .tridem := by
  simp only [groupKind, show g.size ≤ 1 ↔ g.size = 1 by omega]

/-! ### The groups of the first axles -/

/-- The groups that the walk has formed of the first `n` axles, last first: runs, each starting where the one before it
ends. -/
inductive RunsOf (d : Nat) (axles : List Axle) : Nat → List Group → Prop where
  | nil : RunsOf d axles 0 []
  | cons {n : Nat} {g : Group} {gs : List Group} (before : RunsOf d axles n gs) (start : g.start = n + 1)
      (run : IsRun d axles g) : RunsOf d axles (n + g.size) (g :: gs)

section groups
variable {d n : Nat} {axles : List Axle} {gs : List Group} {a : Axle}

/-- The next axle keeps the groups runs; `first` is that the first axle alone stands without a spacing (R78). -/
theorem runsOf_addToGroups (runs : RunsOf d axles n gs) (axle : axles[n]? = some a) (first : a.spacing = none ↔ n = 0) :
    RunsOf d axles (n + 1) (addToGroups d gs (n + 1) a) := by
  cases runs with
  | nil =>
    have alone : a.spacing = none := first.mpr rfl
    simp only [addToGroups]
    exact .cons .nil rfl (isRun_single axle (by simp [alone]))
  | @cons n g gs before start run =>
    have pos : 1 ≤ g.size := run.pos
    obtain ⟨x, spacing⟩ := Option.ne_none_iff_exists'.mp (mt first.mp (by omega))
    simp only [addToGroups, spacing]
    split
    case isTrue close =>
      refine .cons before ?_ (isRun_extend run (by omega) (by omega) axle spacing close)
      exact start
    case isFalse far =>
      exact .cons (.cons before start run) rfl (isRun_single axle (by simpa [spacing] using far))

theorem runsOf_foldl (first : ∀ (i : Nat) (a : Axle), axles[i]? = some a → (a.spacing = none ↔ i = 0)) :
    ∀ (rest : List Axle) {n : Nat} {gs : List Group}, axles.drop n = rest → n ≤ axles.length → RunsOf d axles n gs →
      RunsOf d axles axles.length ((rest.zipIdx (n + 1)).foldl (fun gs ai => addToGroups d gs ai.2 ai.1) gs)
  | [], n, gs, left, inside, runs => by
    have done : n = axles.length := le_antisymm inside (List.drop_eq_nil_iff.mp left)
    exact done ▸ runs
  | a :: rest, n, gs, left, _, runs => by
    have axle : axles[n]? = some a := by rw [← List.head?_drop, left, List.head?_cons]
    have left' : axles.drop (n + 1) = rest := by rw [← List.tail_drop, left, List.tail_cons]
    exact runsOf_foldl first rest left' (List.getElem?_eq_some_iff.mp axle).1
      (runsOf_addToGroups runs axle (first n a axle))

theorem runsOf_axleGroups (first : ∀ (i : Nat) (a : Axle), axles[i]? = some a → (a.spacing = none ↔ i = 0)) :
    RunsOf d axles axles.length (axleGroups d axles).reverse := by
  rw [axleGroups, List.reverse_reverse]
  exact runsOf_foldl first axles rfl (Nat.zero_le _) .nil

/-! ### What the runs give -/

theorem RunsOf.isRun (runs : RunsOf d axles n gs) : ∀ g ∈ gs, IsRun d axles g := by
  induction runs with
  | nil => simp
  | cons before start run ih => exact List.forall_mem_cons.mpr ⟨run, ih⟩

theorem RunsOf.sum_size (runs : RunsOf d axles n gs) : (gs.map fun g => g.size).sum = n := by
  induction runs with
  | nil => rfl
  | cons before start run ih => rw [List.map_cons, List.sum_cons, ih, add_comm]

theorem RunsOf.start_eq_one (runs : RunsOf d axles n gs) : ∀ g, gs.getLast? = some g → g.start = 1 := by
  induction runs with
  | nil => simp
  | @cons n g gs before start run ih =>
    cases before with
    | nil => simp [start]
    | cons => simpa using ih

theorem RunsOf.contiguous (runs : RunsOf d axles n gs) : gs.IsChain fun h g => h.start = g.start + g.size := by
  induction runs with
  | nil => exact .nil
  | @cons n g gs before start run ih =>
    cases before with
    | nil => exact .singleton g
    | cons _ start' _ => exact .cons_cons (by omega) ih

end groups

/-- Settles O30: the walk over the axles keeps the groups runs, each from where the one before it ends. -/
theorem axleGroupsAreRuns : Obligations.AxleGroupsAreRuns := by
  intro d axles first gs
  have runs : RunsOf d axles axles.length gs.reverse := runsOf_axleGroups first
  refine ⟨fun g head => ?starts, fun i g h hg hh => ?contiguous, fun g mem => ?run, ?sizes⟩
  case starts =>
    exact runs.start_eq_one g (by rw [List.getLast?_reverse, head])
  case contiguous =>
    obtain ⟨_, rfl⟩ := List.getElem?_eq_some_iff.mp hg
    obtain ⟨inside, rfl⟩ := List.getElem?_eq_some_iff.mp hh
    exact (List.isChain_reverse.mp runs.contiguous).getElem i inside
  case run =>
    have run := runs.isRun g (List.mem_reverse.mpr mem)
    exact ⟨run.pos, run.load, run.apart, run.within, groupKind_of_pos run.pos⟩
  case sizes =>
    rw [← runs.sum_size, List.map_reverse, List.sum_reverse]

end Sys2Proof.Machine
end

section
/-! The evaluation of a vehicle: checks, worst check and alert kind (R97, R105 to R108): O31. -/

namespace Sys2Proof.Machine

/-! ### The checks (R105, R106) -/

theorem groupCheck_eq (p : ProfileEntry) (g : Group) :
    (⟨groupKind g, some g.start, g.load, profileLimit p (groupKind g)⟩ : Check) =
      if g.size ≤ 1 then ⟨.single, some g.start, g.load, p.single⟩
      else if g.size = 2 then ⟨.tandem, some g.start, g.load, p.tandem⟩
      else ⟨.tridem, some g.start, g.load, p.tridem⟩ := by
  unfold groupKind
  split_ifs <;> rfl

/-- Leaving out the checks whose limit is 0 first, the exceeded ones are those that a limit above 0 finds exceeded. -/
theorem filter_limitChecks (p : ProfileEntry) (groups : List Group) (gross tolerance : Nat) :
    (limitChecks p groups gross).filter (exceeded tolerance) =
      ((groups.map fun g => (⟨groupKind g, some g.start, g.load, profileLimit p (groupKind g)⟩ : Check)) ++
        [(⟨.gross, none, gross, p.gross⟩ : Check)]).filter
          fun c => decide (c.limit ≠ 0 ∧ c.limit * (1000 + tolerance) < c.load * 1000) := by
  rw [limitChecks, List.filter_filter]
  exact List.filter_congr fun c _ => by rw [exceeded, Bool.decide_and, Bool.and_comm]

/-! ### The worst of them (R107) -/

/-- What a check tells as the worst one. -/
def Check.asWorst (c : Check) : Worst := ⟨excessOf c, c.kind, c.index⟩

@[simp] theorem Check.asWorst_excess (c : Check) : c.asWorst.excess = excessOf c := rfl

section worst
variable {cs before after : List Check} {c : Check} {w : Worst}

theorem worstCheck_concat_greater (greater : ∀ w, worstCheck cs = some w → w.excess < excessOf c) :
    worstCheck (cs ++ [c]) = some c.asWorst := by
  unfold worstCheck at *
  rw [List.foldl_concat]
  split
  case h_1 => rfl
  case h_2 w best => exact if_pos (greater w best)

theorem worstCheck_concat_kept (best : worstCheck cs = some w) (least : excessOf c ≤ w.excess) :
    worstCheck (cs ++ [c]) = some w := by
  unfold worstCheck at *
  rw [List.foldl_concat, best]
  exact if_neg (Nat.not_lt.mpr least)

theorem worstCheck_nil : worstCheck [] = none := rfl

theorem exists_worstCheck (some_check : cs ≠ []) : ∃ c ∈ cs, worstCheck cs = some c.asWorst := by
  induction cs using List.reverseRecOn with
  | nil => exact absurd rfl some_check
  | append_singleton cs c ih =>
    obtain rfl | some_before := eq_or_ne cs []
    · exact ⟨c, by simp, worstCheck_concat_greater (by simp [worstCheck_nil])⟩
    · obtain ⟨k, mem, best⟩ := ih some_before
      obtain greater | least := Nat.lt_or_ge (excessOf k) (excessOf c)
      · exact ⟨c, by simp, worstCheck_concat_greater (by simp [best, greater])⟩
      · exact ⟨k, List.mem_append_left _ mem, worstCheck_concat_kept best least⟩

/-- A check above all before it and at least as high as all after it is the worst. -/
theorem worstCheck_first (above : ∀ k ∈ before, excessOf k < excessOf c) (least : ∀ k ∈ after, excessOf k ≤ excessOf c) :
    worstCheck (before ++ c :: after) = some c.asWorst := by
  induction after using List.reverseRecOn with
  | nil =>
    obtain rfl | some_before := eq_or_ne before []
    · exact worstCheck_concat_greater (by simp [worstCheck_nil])
    · obtain ⟨k, mem, best⟩ := exists_worstCheck some_before
      exact worstCheck_concat_greater (by simp [best, above k mem])
  | append_singleton after k ih =>
    rw [← List.cons_append, ← List.append_assoc]
    exact worstCheck_concat_kept (ih fun j mem => least j (by simp [mem])) (least k (by simp))

/-- Among the checks that pass a filter: the one of the largest excess, the first of several. -/
theorem worstCheck_filter_first {p : Check → Bool} {i : Nat} (check : cs[i]? = some c) (passes : p c = true)
    (largest : ∀ (j : Nat) (k : Check), cs[j]? = some k → p k = true →
      excessOf k < excessOf c ∨ (excessOf k = excessOf c ∧ i ≤ j)) :
    worstCheck (cs.filter p) = some c.asWorst := by
  obtain ⟨inside, at_i⟩ := List.getElem?_eq_some_iff.mp check
  have parted : cs.filter p = (cs.take i).filter p ++ c :: (cs.drop (i + 1)).filter p := by
    conv_lhs => rw [← List.take_append_drop i cs, List.drop_eq_getElem_cons inside, at_i]
    rw [List.filter_append, List.filter_cons_of_pos passes]
  rw [parted]
  refine worstCheck_first (fun k mem => ?_) fun k mem => ?_
  · obtain ⟨mem, hit⟩ := List.mem_filter.mp mem
    obtain ⟨j, below, rfl⟩ := List.mem_take_iff_getElem.mp mem
    obtain less | ⟨_, after⟩ := largest j _ (List.getElem?_eq_getElem (by omega)) hit
    · exact less
    · omega
  · obtain ⟨mem, hit⟩ := List.mem_filter.mp mem
    obtain ⟨j, held⟩ := List.mem_iff_getElem?.mp (List.mem_of_mem_drop mem)
    obtain less | ⟨same, _⟩ := largest j k held hit
    · exact less.le
    · exact same.le

end worst

/-! ### The alert kind (R108) -/

theorem alertKind_some (w : Worst) (flags : Flags) :
    alertKind (some w) flags = if flags = 0 then .enforceable else .advisory := by
  by_cases h : flags = 0 <;> simp [alertKind, hasQualityFlag, h]

/-- Settles O31: the worst check and the alert kind are those of the exceeded checks, in check order. -/
theorem checksDecideAlert : Obligations.ChecksDecideAlert := by
  intro set axles gross flags e p groupCheck checks beyond excess
  have worst : e.worst = worstCheck (checks.filter fun c => decide (beyond c)) := by
    have group_checks : groupCheck = fun g => ⟨groupKind g, some g.start, g.load, profileLimit p (groupKind g)⟩ :=
      funext fun g => (groupCheck_eq p g).symm
    simp only [checks, group_checks]
    exact congrArg worstCheck (filter_limitChecks p _ gross set.site.tolerance)
  have alert : e.alert = alertKind e.worst flags := rfl
  refine ⟨rfl, rfl, fun within => ?within, fun ⟨c, mem, hit⟩ => ?exceeded, fun i c check hit largest => ?worst⟩
  case within =>
    have no_check : checks.filter (fun c => decide (beyond c)) = [] := by simpa using within
    rw [alert, worst, no_check]
    exact ⟨rfl, rfl⟩
  case exceeded =>
    have some_check : checks.filter (fun c => decide (beyond c)) ≠ [] :=
      List.ne_nil_of_mem (List.mem_filter.mpr ⟨mem, decide_eq_true hit⟩)
    obtain ⟨w, _, found⟩ := exists_worstCheck some_check
    rw [alert, worst, found, alertKind_some]
  case worst =>
    rw [worst]
    exact worstCheck_filter_first check (decide_eq_true hit)
      fun j k held exceeds => largest j k held (of_decide_eq_true exceeds)

end Sys2Proof.Machine
end
section
/-! The commit of a record (R119 to R123, R178, R185), port by port: O32. -/

namespace Sys2Proof.Machine

/-! ### What the ring and the port logic hold for one port -/

/-- What the Record Ring and the port logic hold for one port. -/
abbrev PortView := RingPort × Port

/-- A port's view in a state. -/
def State.view (s : State) (p : PortId) : PortView := (s.ringPort p, s.port p)

/-- The view of a port replaced. -/
def State.withView (s : State) (p : PortId) (v : PortView) : State := (s.withRingPort p v.1).withPort p v.2

/-- Every port's view replaced by what an operation makes of it. -/
def State.mapViews (f : PortView → PortView) (s : State) : State :=
  { s with
    rr := { s.rr with ports := Tri.of fun p => (f (s.view p)).1 }
    ports := Tri.of fun p => (f (s.view p)).2 }

@[simp] theorem State.view_mapViews (f : PortView → PortView) (s : State) (p : PortId) :
    (s.mapViews f).view p = f (s.view p) := by
  simp [State.mapViews, State.view, State.ringPort, State.port]

@[simp] theorem State.view_withView_self (s : State) (p : PortId) (v : PortView) : (s.withView p v).view p = v := by
  simp [State.withView, State.view, State.ringPort, State.withRingPort]

@[simp] theorem State.view_withView_ne (s : State) {p q : PortId} (v : PortView) (h : q ≠ p) :
    (s.withView p v).view q = s.view q :=
  Prod.ext (Tri.get_set_ne _ _ h) (Tri.get_set_ne _ _ h)

@[simp] theorem State.now_withView (s : State) (p : PortId) (v : PortView) : (s.withView p v).now = s.now := rfl

@[simp] theorem State.withView_withView (s : State) (p : PortId) (u v : PortView) :
    (s.withView p u).withView p v = s.withView p v := by
  simp [State.withView, State.withRingPort, State.withPort]

@[simp] theorem State.withView_view (s : State) (p : PortId) : s.withView p (s.view p) = s := by
  simp [State.withView, State.withRingPort, State.withPort, State.view, State.ringPort, State.port]

theorem State.withRingPort_eq_withView (s : State) (p : PortId) (q : RingPort) :
    s.withRingPort p q = s.withView p (q, (s.view p).2) := by
  simp [State.withView, State.withPort, State.view, State.port, State.withRingPort]

/-- An operation on one port's view, made at the three ports in turn, is made at every port. -/
theorem State.mapViews_of_each {op : PortId → State → State} {f : Time → PortView → PortView}
    (each : ∀ p s, op p s = s.withView p (f s.now (s.view p))) (s : State) :
    op .p3 (op .p2 (op .p1 s)) = s.mapViews (f s.now) := by
  have turns : op .p3 (op .p2 (op .p1 s)) = ((s.withView .p1 (f s.now (s.view .p1))).withView .p2
      (f s.now (s.view .p2))).withView .p3 (f s.now (s.view .p3)) := by simp [each]
  rw [turns]
  simp only [State.withView, State.withRingPort, State.withPort, Tri.set, State.mapViews, Tri.of]

/-! ### Eviction and offer on one port's view -/

namespace PortView

/-- A flag raised at the port. -/
def raise (now : Time) (f : NoticeSet) (v : PortView) : PortView := (v.1, noticed now (v.2.flags ||| f) v.2)

/-- The record that the cursor stands on evicted (R120). -/
def overtake (now : Time) (v : PortView) : PortView :=
  raise now Notice.lost ({ v.1 with cursor := v.1.cursor + 1, recordLoss := v.1.recordLoss + 1 }, v.2)

/-- The record numbered `o` evicted (R120). -/
def evict (now : Time) (o : Seq) (v : PortView) : PortView :=
  if v.2.role ≠ .disabled ∧ v.1.cursor = o then overtake now v else v

/-- An entry joins the alert queue (R122, R123). -/
def enqueue (now : Time) (e : AlertEntry) (v : PortView) : PortView :=
  raise now Notice.alert
    (if 16 ≤ v.1.alerts.length then
      raise now Notice.lost ({ v.1 with alerts := v.1.alerts.tail ++ [e], alertLoss := v.1.alertLoss + 1 }, v.2)
     else ({ v.1 with alerts := v.1.alerts ++ [e] }, v.2))

/-- NEW_RECORD by the filter (R119 step 3). -/
def announce (now : Time) (x : Record) (v : PortView) : PortView :=
  if passesFilter v.1 x then raise now Notice.newRecord v else v

/-- An alert entry by the subscription (R119 step 3). -/
def alert (now : Time) (x : Record) (v : PortView) : PortView :=
  if admits v.1.subscription x.alert then enqueue now (alertEntry x) v else v

/-- A record offered to the filter and the subscription (R119 step 3). -/
def offer (now : Time) (x : Record) (v : PortView) : PortView :=
  if v.2.role = .disabled then v else alert now x (announce now x v)

end PortView

/-! ### The ring's operations on a port are those on its view -/

theorem raiseAt_eq_withView {s : State} {p : PortId} (enabled : (s.view p).2.role ≠ .disabled) (f : NoticeSet) :
    raiseAt p f s = s.withView p ((s.view p).raise s.now f) := by
  have same : s.withRingPort p (s.ringPort p) = s := by simp [State.withRingPort, State.ringPort]
  have on : s.disabled p = false := decide_eq_false enabled
  rw [raiseAt, on, if_neg Bool.false_ne_true, replaceFlags_eq_noticed, State.withView]
  exact congrArg (State.withPort · p _) same.symm

theorem raiseAt_withView {s : State} {p : PortId} {v : PortView} (enabled : v.2.role ≠ .disabled) (f : NoticeSet) :
    raiseAt p f (s.withView p v) = s.withView p (v.raise s.now f) := by
  rw [raiseAt_eq_withView (by simpa using enabled)]
  simp

theorem evictCursor_eq_withView (o : Seq) (p : PortId) (s : State) :
    evictCursor o p s = s.withView p ((s.view p).evict s.now o) := by
  by_cases h : (s.view p).2.role ≠ .disabled ∧ (s.view p).1.cursor = o
  · have moves : s.disabled p = false ∧ (s.ringPort p).cursor = o := ⟨decide_eq_false h.1, h.2⟩
    rw [evictCursor, if_pos moves, PortView.evict, if_pos h, State.withRingPort_eq_withView,
      raiseAt_withView (by exact h.1), ← moves.2]
    rfl
  · have stays : ¬(s.disabled p = false ∧ (s.ringPort p).cursor = o) := by
      rw [State.disabled, decide_eq_false_iff_not]
      exact h
    rw [evictCursor, if_neg stays, PortView.evict, if_neg h, State.withView_view]

theorem queueAlert_eq_withView {s : State} {p : PortId} (enabled : (s.view p).2.role ≠ .disabled) (e : AlertEntry) :
    queueAlert e p s = s.withView p ((s.view p).enqueue s.now e) := by
  have q : s.ringPort p = (s.view p).1 := rfl
  unfold queueAlert PortView.enqueue
  dsimp only
  rw [q]
  split <;> rw [State.withRingPort_eq_withView]
  · rw [raiseAt_withView (by exact enabled), raiseAt_withView (by exact enabled)]
  · rw [raiseAt_withView (by exact enabled)]

theorem offerRecord_eq_withView (x : Record) (p : PortId) (s : State) :
    offerRecord x p s = s.withView p ((s.view p).offer s.now x) := by
  by_cases enabled : (s.view p).2.role = .disabled
  · have off : s.disabled p = true := decide_eq_true enabled
    rw [offerRecord, off, if_pos rfl, PortView.offer, if_pos enabled, State.withView_view]
  · have on : s.disabled p = false := decide_eq_false enabled
    have announced : (if passesFilter (s.ringPort p) x then raiseAt p Notice.newRecord s else s) =
        s.withView p ((s.view p).announce s.now x) := by
      unfold PortView.announce
      split <;> rename_i passes
      · rw [raiseAt_eq_withView enabled, if_pos (by exact passes)]
      · rw [if_neg (by exact passes), State.withView_view]
    have role : ((s.view p).announce s.now x).2.role = (s.view p).2.role := by
      unfold PortView.announce
      split <;> rfl
    rw [offerRecord, on, if_neg Bool.false_ne_true, announced, PortView.offer, if_neg enabled, PortView.alert]
    dsimp only
    have q (v : PortView) : (s.withView p v).ringPort p = v.1 := congrArg Prod.fst (State.view_withView_self s p v)
    rw [q]
    split
    · rw [queueAlert_eq_withView (by simpa [role] using enabled)]
      simp
    · rfl

/-- What a commit makes of one port's view: the eviction from a full ring, then the offer of the record as numbered. -/
def PortView.commit (x : Record) (s : State) (v : PortView) : PortView :=
  (if 256 ≤ s.rr.count then v.evict s.now s.rr.oldest else v).offer s.now { x with seq := s.rr.next }

/-- The ring, the numbering and the lane's count after a commit (R119, R178). -/
def Rr.append (x : Record) (r : Rr) : Rr :=
  { r with
    ring := (if 256 ≤ r.count then r.ring.tail else r.ring) ++ [{ x with seq := r.next }]
    next := r.next + 1
    committed := bump r.committed x.lane }

theorem evictCursor_each (o : Seq) (s : State) :
    evictCursor o .p3 (evictCursor o .p2 (evictCursor o .p1 s)) = s.mapViews (PortView.evict s.now o) :=
  State.mapViews_of_each (op := evictCursor o) (f := fun now => PortView.evict now o) (evictCursor_eq_withView o) s

theorem offerRecord_each (x : Record) (s : State) :
    offerRecord x .p3 (offerRecord x .p2 (offerRecord x .p1 s)) = s.mapViews (PortView.offer s.now x) :=
  State.mapViews_of_each (op := offerRecord x) (f := fun now => PortView.offer now x) (offerRecord_eq_withView x) s

theorem evictIfFull_eq (s : State) : evictIfFull s =
    State.mapViews (fun v => if 256 ≤ s.rr.count then v.evict s.now s.rr.oldest else v)
      { s with rr := { s.rr with ring := if 256 ≤ s.rr.count then s.rr.ring.tail else s.rr.ring } } := by
  unfold evictIfFull
  split
  · exact evictCursor_each ..
  · rfl

/-- The commit of a record: the ring takes it, and every port's view follows (R119). -/
theorem commitRecord_eq (x : Record) (s : State) :
    commitRecord x s = State.mapViews (PortView.commit x s) { s with rr := s.rr.append x } := by
  unfold commitRecord
  dsimp only
  rw [evictIfFull_eq, offerRecord_each]
  simp only [State.mapViews, State.view, State.ringPort, State.port, State.countCommitted, Tri.get_of, Rr.append,
    PortView.commit, State.now]

/-! ### Flags raised one after another (R185) -/

/-- In PULSE mode with an empty set: the next unmasked flag starts a pulse. -/
def Port.Asleep (x : Port) : Prop := x.lineMode = .pulse ∧ x.flags &&& ~~~x.mask = 0

/-- The set of a port passes from empty to not in PULSE mode once these flags are raised. -/
def Port.Wakes (f : NoticeSet) (x : Port) : Prop := x.Asleep ∧ (x.flags ||| f) &&& ~~~x.mask ≠ 0

/-- A port after flags have been raised at it, at one go or several: the set grows, and in PULSE mode the line follows. A
reminder expiry left over on an empty set may be cleared on the way. -/
structure Port.Raised (now : Time) (f : NoticeSet) (x y : Port) : Prop where
  frame : y = { x with flags := x.flags ||| f, pulse := y.pulse, reminderExpiry := y.reminderExpiry }
  pulse_wakes : x.Wakes f → y.pulse = some (now + 16#32)
  pulse_stays : ¬x.Wakes f → y.pulse = x.pulse
  expiry_awake : ¬x.Asleep → y.reminderExpiry = x.reminderExpiry
  expiry_wakes : x.Wakes f → x.reminder = true → y.reminderExpiry = some (now + 8192#32)
  expiry_asleep : x.Asleep → ¬(x.Wakes f ∧ x.reminder = true) →
    y.reminderExpiry = none ∨ y.reminderExpiry = x.reminderExpiry

theorem or_and_eq_zero {n : Nat} (a b m : BitVec n) : (a ||| b) &&& m = 0#n ↔ a &&& m = 0#n ∧ b &&& m = 0#n := by
  rw [BitVec.and_or_distrib_right, BitVec.or_eq_zero_iff]

namespace Port.Raised

variable {now : Time} {f g : NoticeSet} {x y z : Port}

/-- No flag raised. -/
theorem refl (now : Time) (x : Port) : Raised now 0 x x := by
  have sleeps : ¬x.Wakes 0 := fun w => w.2 (by simpa using w.1.2)
  exact ⟨by simp, fun w => absurd w sleeps, fun _ => rfl, fun _ => rfl, fun w => absurd w sleeps, fun _ _ => .inr rfl⟩

/-- Flags raised at one go. -/
theorem noticed (now : Time) (f : NoticeSet) (x : Port) : Raised now f x (noticed now (x.flags ||| f) x) := by
  have grows := or_and_eq_zero x.flags f (~~~x.mask)
  constructor <;> simp only [Machine.noticed, Port.Wakes, Port.Asleep, later] <;> grind

/-- A port sleeps on exactly where it slept and no flag raised has woken it. -/
theorem asleep_iff (raised : Raised now f x y) : y.Asleep ↔ x.Asleep ∧ ¬x.Wakes f := by
  have grows := or_and_eq_zero x.flags f (~~~x.mask)
  rw [raised.frame]
  simp only [Port.Wakes, Port.Asleep]
  grind

/-- Of flags raised in two turns, one turn at most wakes the port. -/
theorem wakes_or_iff (raised : Raised now f x y) (g : NoticeSet) : x.Wakes (f ||| g) ↔ x.Wakes f ∨ y.Wakes g := by
  have grows := or_and_eq_zero (x.flags ||| f) g (~~~x.mask)
  rw [Port.Wakes.eq_1 g, raised.asleep_iff, raised.frame]
  simp only [Port.Wakes, ← BitVec.or_assoc]
  grind

/-- Flags raised after others. -/
theorem trans (first : Raised now f x y) (next : Raised now g y z) : Raised now (f ||| g) x z := by
  have asleep := first.asleep_iff
  have wakes := first.wakes_or_iff g
  have frame : z = { x with flags := x.flags ||| (f ||| g), pulse := z.pulse, reminderExpiry := z.reminderExpiry } := by
    rw [next.frame, first.frame, BitVec.or_assoc]
  have reminder : y.reminder = x.reminder := by rw [first.frame]
  have woken_awake : y.Wakes g → y.Asleep := And.left
  obtain ⟨-, pulse_wakes, pulse_stays, expiry_awake, expiry_wakes, expiry_asleep⟩ := first
  obtain ⟨-, pulse_wakes', pulse_stays', expiry_awake', expiry_wakes', expiry_asleep'⟩ := next
  refine ⟨frame, ?_, ?_, ?_, ?_, ?_⟩ <;> grind

end Port.Raised

/-! ### Each operation on a view, field by field -/

/-- The flags of a commit in the order in which they are raised, and by cause. -/
theorem commitFlags_eq (overtaken passes admitted drops : Bool) :
    (if overtaken then Notice.lost else 0) ||| ((if passes then Notice.newRecord else 0) |||
      ((if drops then Notice.lost else 0) ||| if admitted then Notice.alert else 0)) =
    (if overtaken || drops then Notice.lost else 0) ||| (if passes then Notice.newRecord else 0) |||
      (if admitted then Notice.alert else 0) := by
  revert overtaken passes admitted drops
  decide

namespace PortView

theorem raised_raise (now : Time) (f : NoticeSet) (v : PortView) : Port.Raised now f v.2 (raise now f v).2 :=
  Port.Raised.noticed now f v.2

/-- The eviction of the oldest record from a full ring: the cursor and the loss count, and LOST (R120). -/
theorem evict_spec {now : Time} {full : Prop} [Decidable full] {o : Seq} {v : PortView} (enabled : v.2.role ≠ .disabled) :
    let overtaken := decide (full ∧ v.1.cursor = o)
    let u := if full then evict now o v else v
    u.1 = { v.1 with
      cursor := if overtaken then o + 1 else v.1.cursor
      recordLoss := if overtaken then v.1.recordLoss + 1 else v.1.recordLoss } ∧
    Port.Raised now (if overtaken then Notice.lost else 0) v.2 u.2 := by
  intro overtaken u
  by_cases h : full ∧ v.1.cursor = o
  · have moved : u = overtake now v := by simp [u, evict, h, enabled]
    have on : overtaken = true := decide_eq_true h
    rw [moved, on, ← h.2]
    exact ⟨rfl, raised_raise now Notice.lost _⟩
  · have stays : u = v := by
      simp only [u, evict]
      split_ifs <;> tauto
    have off : overtaken = false := decide_eq_false h
    rw [stays, off]
    exact ⟨rfl, Port.Raised.refl now v.2⟩

/-- NEW_RECORD by the filter (R119). -/
theorem announce_spec (now : Time) (x : Record) (v : PortView) :
    (announce now x v).1 = v.1 ∧
      Port.Raised now (if passesFilter v.1 x then Notice.newRecord else 0) v.2 (announce now x v).2 := by
  unfold announce
  split
  · exact ⟨rfl, raised_raise now _ v⟩
  · exact ⟨rfl, Port.Raised.refl now v.2⟩

/-- An alert entry by the subscription, dropping the head of a full queue with LOST (R122, R123). -/
theorem alert_spec (now : Time) (x : Record) (v : PortView) :
    let admitted := admits v.1.subscription x.alert
    let drops := admitted && decide (16 ≤ v.1.alerts.length)
    (alert now x v).1 = { v.1 with
      alerts := if admitted then (if drops then v.1.alerts.tail else v.1.alerts) ++ [alertEntry x] else v.1.alerts
      alertLoss := if drops then v.1.alertLoss + 1 else v.1.alertLoss } ∧
    Port.Raised now ((if drops then Notice.lost else 0) ||| if admitted then Notice.alert else 0) v.2 (alert now x v).2 := by
  intro admitted drops
  cases ha : admits v.1.subscription x.alert
  · simp only [admitted, drops, alert, ha]
    exact ⟨rfl, (Port.Raised.refl now v.2).trans (Port.Raised.refl now v.2)⟩
  · by_cases full : 16 ≤ v.1.alerts.length
    · have queued := raised_raise now Notice.alert (raise now Notice.lost
        ({ v.1 with alerts := v.1.alerts.tail ++ [alertEntry x], alertLoss := v.1.alertLoss + 1 }, v.2))
      simp only [admitted, drops, alert, enqueue, ha, full]
      exact ⟨rfl, (raised_raise now Notice.lost _).trans queued⟩
    · simp only [admitted, drops, alert, enqueue, ha, full]
      exact ⟨rfl, (Port.Raised.refl now v.2).trans (raised_raise now Notice.alert _)⟩

/-- A commit leaves a DISABLED port's view as it is (R170). -/
theorem commit_disabled {x : Record} {s : State} {v : PortView} (off : v.2.role = .disabled) : commit x s v = v := by
  simp [commit, evict, offer, off]

/-- A commit at a port that is not DISABLED: the eviction, the filter and the subscription in turn (R119). -/
theorem commit_spec {x : Record} {s : State} {v : PortView} (enabled : v.2.role ≠ .disabled) :
    let overtaken := decide (256 ≤ s.rr.count ∧ v.1.cursor = s.rr.oldest)
    let passes := passesFilter v.1 x
    let admitted := admits v.1.subscription x.alert
    let drops := admitted && decide (16 ≤ v.1.alerts.length)
    (commit x s v).1 = { v.1 with
      cursor := if overtaken then s.rr.oldest + 1 else v.1.cursor
      recordLoss := if overtaken then v.1.recordLoss + 1 else v.1.recordLoss
      alerts := if admitted then
          (if drops then v.1.alerts.tail else v.1.alerts) ++ [alertEntry { x with seq := s.rr.next }]
        else v.1.alerts
      alertLoss := if drops then v.1.alertLoss + 1 else v.1.alertLoss } ∧
    Port.Raised s.now ((if overtaken || drops then Notice.lost else 0) ||| (if passes then Notice.newRecord else 0) |||
      (if admitted then Notice.alert else 0)) v.2 (commit x s v).2 := by
  intro overtaken passes admitted drops
  let numbered : Record := { x with seq := s.rr.next }
  obtain ⟨evicted, lost⟩ := evict_spec (now := s.now) (full := 256 ≤ s.rr.count) (o := s.rr.oldest) enabled
  have offered : commit x s v = alert s.now numbered (announce s.now numbered
      (if 256 ≤ s.rr.count then evict s.now s.rr.oldest v else v)) := if_neg (by rw [lost.frame]; exact enabled)
  generalize (if 256 ≤ s.rr.count then evict s.now s.rr.oldest v else v) = u at evicted lost offered
  obtain ⟨announced, recorded⟩ := announce_spec s.now numbered u
  obtain ⟨alerted, queued⟩ := alert_spec s.now numbered (announce s.now numbered u)
  rw [announced, evicted] at alerted queued
  rw [evicted] at recorded
  rw [offered]
  exact ⟨alerted, commitFlags_eq overtaken passes admitted drops ▸ lost.trans (recorded.trans queued)⟩

end PortView

/-- Settles O32: the ring's part at once, and each port's view by the eviction, then the filter, then the subscription. -/
theorem commitOfRecord : Obligations.CommitOfRecord := by
  intro x s full oldest t
  have eq : t = State.mapViews (PortView.commit x s) { s with rr := s.rr.append x } := commitRecord_eq x s
  have view (p : PortId) : t.view p = PortView.commit x s (s.view p) := by rw [eq, State.view_mapViews]; rfl
  refine ⟨by rw [eq]; rfl, by rw [eq]; rfl, by rw [eq]; rfl, by rw [eq]; rfl, fun p off => ?disabled, fun p on => ?enabled⟩
  case disabled =>
    have same : t.view p = s.view p := (view p).trans (PortView.commit_disabled off)
    exact ⟨congrArg Prod.fst same, congrArg Prod.snd same⟩
  case enabled =>
    intro q overtaken passes admitted
    have admits_eq : admitted = admits q.subscription x.alert := by
      simp only [admitted]
      cases q.subscription <;> cases x.alert <;> rfl
    clear_value admitted
    subst admits_eq
    intro drops flags slept wakes
    obtain ⟨ring, port⟩ := PortView.commit_spec (x := x) (s := s) (v := s.view p) on
    rw [← view] at ring port
    have flags_eq : flags = (s.port p).flags ||| ((if overtaken || drops then Notice.lost else 0) |||
        (if passes then Notice.newRecord else 0) ||| (if admits q.subscription x.alert then Notice.alert else 0)) := by
      simp only [flags, BitVec.or_assoc]
    clear_value flags
    subst flags_eq
    exact ⟨ring, port.frame, port.pulse_wakes, port.pulse_stays, port.expiry_awake, port.expiry_wakes, port.expiry_asleep⟩

end Sys2Proof.Machine
end

section
/-! Sequence numbers (R117): their ages, the ring's run through a commit, and the cursors that FETCH and SEEK give. -/

namespace Sys2Proof.Machine

/-! ### Sequence numbers and ages (R117) -/

theorem ofNat_succ (n : Nat) : BitVec.ofNat 32 (n + 1) = BitVec.ofNat 32 n + 1 := BitVec.ofNat_add n 1

/-- The number so many before the next has that age. -/
theorem age_of_sub {n : Nat} (next : Seq) (h : n < 2 ^ 32) : (next - (next - BitVec.ofNat 32 n)).toNat = n := by
  rw [sub_sub_cancel, BitVec.toNat_ofNat, Nat.mod_eq_of_lt h]

/-- A number is the next less its age. -/
theorem eq_sub_of_age {n : Nat} {next c : Seq} (h : (next - c).toNat = n) : c = next - BitVec.ofNat 32 n := by
  rw [← h, BitVec.ofNat_toNat, BitVec.setWidth_eq, sub_sub_cancel]

/-- A number moved on by no more than its age is so much less old. -/
theorem age_of_add {k : Nat} {next c : Seq} (h : k ≤ (next - c).toNat) :
    (next - (c + BitVec.ofNat 32 k)).toNat = (next - c).toNat - k := by
  have small : k % 2 ^ 32 = k := Nat.mod_eq_of_lt (h.trans_lt (next - c).isLt)
  have le : BitVec.ofNat 32 k ≤ next - c := by rw [BitVec.le_def, BitVec.toNat_ofNat, small]; exact h
  rw [← sub_sub, BitVec.toNat_sub_of_le le, BitVec.toNat_ofNat, small]

theorem age_succ_le (next c : Seq) : (next + 1 - c).toNat ≤ (next - c).toNat + 1 := by
  rw [add_sub_right_comm, BitVec.toNat_add]
  exact Nat.mod_le _ _

/-- A cursor stays within the ring through a commit, moved on where its record is evicted (R120). -/
theorem age_commit {n : Nat} {next c : Seq} (fits : n ≤ 256) (within : (next - c).toNat ≤ n) :
    (next + 1 - if decide (256 ≤ n ∧ c = next - BitVec.ofNat 32 n) then next - BitVec.ofNat 32 n + 1 else c).toNat ≤
      if 256 ≤ n then n else n + 1 := by
  by_cases overtaken : 256 ≤ n ∧ c = next - BitVec.ofNat 32 n
  · rw [if_pos (decide_eq_true overtaken), if_pos overtaken.1, add_sub_add_right_eq_sub, age_of_sub next (by omega)]
  · have older := age_succ_le next c
    rw [if_neg (by rw [decide_eq_true_eq]; exact overtaken)]
    split
    · have inside : (next - c).toNat ≠ n := fun h => overtaken ⟨‹_›, eq_sub_of_age h⟩
      omega
    · omega

/-! ### The run through a commit -/

namespace RingRun

variable {r : Rr}

theorem of_eq {u : Rr} (run : RingRun r) (ring : u.ring = r.ring) (next : u.next = r.next) : RingRun u := by
  unfold RingRun
  rw [ring, next]
  exact run

/-- A run that loses its oldest record is a run (R119 step 1). -/
theorem tail (run : RingRun r) (some_record : r.ring ≠ []) : RingRun { r with ring := r.ring.tail } := by
  obtain ⟨fits, seqs⟩ := run
  obtain ⟨n, length⟩ : ∃ n, r.ring.length = n + 1 := Nat.exists_eq_add_one.mpr (List.length_pos_of_ne_nil some_record)
  refine ⟨by rw [List.length_tail]; omega, fun i x hx => ?_⟩
  rw [List.getElem?_tail] at hx
  rw [seqs (i + 1) x hx, List.length_tail, length, Nat.add_sub_cancel, ofNat_succ, ofNat_succ]
  ring

/-- A run that takes a record under its next number is a run (R119 step 2). -/
theorem append (run : RingRun r) (room : r.ring.length < 256) (x : Record) :
    RingRun { r with ring := r.ring ++ [{ x with seq := r.next }], next := r.next + 1 } := by
  obtain ⟨fits, seqs⟩ := run
  refine ⟨by rw [List.length_append, List.length_singleton]; omega, fun i y hy => ?_⟩
  rw [List.length_append, List.length_singleton, ofNat_succ]
  by_cases hi : i < r.ring.length
  · rw [List.getElem?_append_left hi] at hy
    rw [seqs i y hy]
    ring
  · rw [List.getElem?_append_right (by omega), List.getElem?_singleton] at hy
    split at hy
    · have last : i = r.ring.length := by omega
      rw [← Option.some.inj hy, last]
      ring
    · cases hy

/-- What a commit leaves of the ring is a run. -/
theorem commit (run : RingRun r) (x : Record) : RingRun { r with
    ring := (if 256 ≤ r.ring.length then r.ring.tail else r.ring) ++ [{ x with seq := r.next }], next := r.next + 1 } := by
  have fits := run.1
  split
  · have shorter : r.ring.tail.length < 256 := by
      rw [List.length_tail]
      omega
    have some_record : r.ring ≠ [] := List.ne_nil_of_length_pos (by omega)
    exact (run.tail some_record).append shorter x
  · exact run.append (by omega) x

end RingRun

/-! ### The cursors that FETCH and SEEK give (R127, R130) -/

/-- The FETCH walk moves the cursor on by no more than the records it walks over. -/
theorem fetchWalk_cursor (q : RingPort) (ys : List Record) (c : Seq) :
    ∃ k ≤ ys.length, (fetchWalk q ys c).1 = c + BitVec.ofNat 32 k := by
  induction ys generalizing c with
  | nil => exact ⟨0, le_rfl, (BitVec.add_zero c).symm⟩
  | cons y ys ih =>
    unfold fetchWalk
    split
    · exact ⟨1, Nat.succ_pos _, rfl⟩
    · obtain ⟨k, hk, e⟩ := ih (c + 1)
      exact ⟨k + 1, Nat.succ_le_succ hk, by rw [e, ofNat_succ, add_assoc, add_comm 1]⟩

/-- The records from a cursor within the ring are as many as its age. -/
theorem length_fromCursor {r : Rr} {c : Seq} (within : r.age c ≤ r.count) : (r.fromCursor c).length = r.age c := by
  rw [Rr.fromCursor, if_pos within, List.length_drop, ← Rr.count]
  omega

theorem age_fetchWalk {r : Rr} {c : Seq} (within : r.age c ≤ r.count) (q : RingPort) :
    r.age (fetchWalk q (r.fromCursor c) c).1 ≤ r.count := by
  obtain ⟨k, hk, e⟩ := fetchWalk_cursor q (r.fromCursor c) c
  rw [length_fromCursor within] at hk
  rw [e, Rr.age, age_of_add hk]
  exact (Nat.sub_le _ _).trans within

/-- The cursors that SEEK admits stand within the ring (R130). -/
theorem age_seekCursor {r : Rr} (run : RingRun r) {target : Nat} {x c : Seq} (admitted : r.seekCursor target x = some c) :
    r.age c ≤ r.count := by
  have fits : r.count ≤ 256 := run.1
  unfold Rr.seekCursor at admitted
  split at admitted
  · rw [← Option.some.inj admitted, Rr.age, Rr.oldest, age_of_sub _ (by omega)]
  · rw [← Option.some.inj admitted]
    split
    · simp [Rr.age]
    · rw [Rr.age, sub_sub_cancel]
      exact Nat.pos_of_ne_zero ‹_›
  · rw [← Option.some.inj admitted]
    simp [Rr.age]
  · split at admitted
    · rw [← Option.some.inj admitted]
      assumption
    · cases admitted
  · cases admitted

end Sys2Proof.Machine
end

section
/-! The ring's run and the cursors within it (R117, R120): kept by each operation, and so by every step (O33). -/

namespace Sys2Proof.Machine

/-! ### What leaves every port's role as it is -/

@[simp] theorem raiseAt_role (p q : PortId) (f : NoticeSet) (s : State) :
    ((raiseAt p f s).ports.get q).role = (s.ports.get q).role := by
  change ((raiseAt p f s).port q).role = (s.port q).role
  rw [port_raiseAt]
  split
  · rename_i h
    rw [h.1, noticed_role]
  · rfl

@[simp] theorem raiseAll_role (q : PortId) (f : NoticeSet) (s : State) :
    ((raiseAll f s).ports.get q).role = (s.ports.get q).role := by simp [raiseAll]

@[simp] theorem completeTest_role (q : PortId) (x : TestContext) (ratio : ChannelId → Nat) (record : Option Seq) (s : State) :
    ((completeTest x ratio record s).ports.get q).role = (s.ports.get q).role := by
  unfold completeTest
  dsimp only
  (repeat' split) <;> simp

@[simp] theorem finishTest_role (q : PortId) (l : Lane) (axles : List Axle) (seq : Seq) (s : State) :
    ((finishTest l axles seq s).ports.get q).role = (s.ports.get q).role := by
  unfold finishTest
  (repeat' split) <;> simp

@[simp] theorem abortTest_role (q : PortId) (s : State) :
    ((abortTest s).ports.get q).role = (s.ports.get q).role := by
  unfold abortTest
  dsimp only
  split <;> simp

@[simp] theorem abortTestOn_role (q : PortId) (l : Lane) (s : State) :
    ((abortTestOn l s).ports.get q).role = (s.ports.get q).role := by
  unfold abortTestOn
  split <;> simp

@[simp] theorem takeOccupied_role (q : PortId) (l : Lane) (s : State) :
    ((takeOccupied l s).ports.get q).role = (s.ports.get q).role := by
  unfold takeOccupied
  dsimp only
  (repeat' split) <;> simp

@[simp] theorem rereadPresence_role (q : PortId) (l : Lane) (s : State) :
    ((rereadPresence l s).ports.get q).role = (s.ports.get q).role := by
  unfold rereadPresence
  (repeat' split) <;> simp

@[simp] theorem rereadAll_role (q : PortId) (s : State) :
    ((rereadAll s).ports.get q).role = (s.ports.get q).role := by simp [rereadAll, Ix4.all]

@[simp] theorem openLane_role (q : PortId) (l : Lane) (s : State) :
    ((openLane l s).ports.get q).role = (s.ports.get q).role := by
  unfold openLane
  dsimp only
  rw [settle_channels, rereadPresence_role]
  rfl

@[simp] theorem secondPasses_role (q : PortId) (s : State) :
    ((secondPasses s).ports.get q).role = (s.ports.get q).role := by
  unfold secondPasses
  dsimp only
  split <;> simp

@[simp] theorem restartPn_role (q : PortId) (s : State) :
    ((restartPn s).ports.get q).role = (s.ports.get q).role := by
  rw [restartPn, Tri.get_of]
  split
  · rfl
  · rw [restartPort_eq]
    rfl

theorem State.disabled_of_role {s t : State} {q : PortId} (role : (t.ports.get q).role = (s.ports.get q).role) :
    t.disabled q = s.disabled q := congrArg (fun r => decide (r = Role.disabled)) role

@[simp] theorem persistCompletes_role (q : PortId) (equal : Bool) (s : State) :
    ((persistCompletes equal s).ports.get q).role = (s.ports.get q).role := by simp [persistCompletes]

/-! ### The updates of the state -/

namespace RingInv

variable {s t : State}

/-- What the ring holds and the ports' roles are as they were. -/
theorem of_ring (h : RingInv s) (rr : t.rr = s.rr := by simp)
    (roles : ∀ q, (t.ports.get q).role = (s.ports.get q).role := by simp) : RingInv t := by
  obtain ⟨run, cursors⟩ := h
  have ringPort q : t.ringPort q = s.ringPort q := congrArg (·.ports.get q) rr
  refine ⟨rr ▸ run, fun q on => ?_⟩
  rw [ringPort, rr]
  exact cursors q (State.disabled_of_role (roles q) ▸ on)

/-- A cursor moved within the ring. -/
theorem withRingPort (h : RingInv s) (p : PortId) {x : RingPort}
    (within : s.disabled p = false → s.rr.age x.cursor ≤ s.rr.count) : RingInv (s.withRingPort p x) := by
  refine ⟨h.1, fun q on => ?_⟩
  rw [State.ringPort_withRingPort]
  split
  · subst q
    exact within on
  · exact h.2 q on

/-- A commit appends the next number and moves a cursor that it overtakes (R119, R120). -/
theorem commitRecord (h : RingInv s) (x : Record) : RingInv (commitRecord x s) := by
  obtain ⟨run, cursors⟩ := h
  obtain ⟨ring, next, -, -, disabled, enabled⟩ := commitOfRecord x s
  have fits := run.1
  have kept : RingRun (Machine.commitRecord x s).rr := (run.commit x).of_eq ring next
  have count : (Machine.commitRecord x s).rr.count = if 256 ≤ s.rr.count then s.rr.count else s.rr.count + 1 := by
    rw [Rr.count, ring, List.length_append, List.length_singleton, Rr.count]
    split
    · rw [List.length_tail]
      omega
    · rfl
  refine ⟨kept, fun p on => ?_⟩
  have was_on : (s.port p).role ≠ .disabled := fun off => by
    have := (disabled p off).2
    simp [State.disabled, this, off] at on
  obtain ⟨ringPort, -⟩ := enabled p was_on
  have moved := age_commit (next := s.rr.next) (c := (s.ringPort p).cursor) fits (cursors p (decide_eq_false was_on))
  rw [count, Rr.age, next, ringPort]
  exact moved

theorem raiseAll (h : RingInv s) (f : NoticeSet) : RingInv (raiseAll f s) := h.of_ring

/-- A port that is written keeps its role. -/
theorem withPort (h : RingInv s) {p : PortId} {x : Port} (role : x.role = (s.port p).role) : RingInv (s.withPort p x) :=
  h.of_ring rfl fun q => by
    change ((s.withPort p x).port q).role = (s.port q).role
    rw [State.port_withPort]
    split
    · rw [role, ‹q = p›]
    · rfl

/-! ### Vehicles -/

theorem closeVehicle (h : RingInv s) (l : Lane) (cause : Flags) : RingInv (closeVehicle l cause s) := by
  unfold Machine.closeVehicle
  dsimp only
  split
  · exact h.of_ring rfl fun _ => rfl
  · have committed := h.commitRecord (vehicleRecord s l (s.context l) cause)
    split
    · exact committed.of_ring
    · exact committed.of_ring

theorem closeAndReopen (h : RingInv s) (l : Lane) (a : Axle) (cause : Flags) (continuation : Bool) :
    RingInv (closeAndReopen l a cause continuation s) := by
  unfold Machine.closeAndReopen
  exact (h.closeVehicle l cause).of_ring

theorem axleArrives (h : RingInv s) (l : Lane) (a : Axle) : RingInv (axleArrives l a s) := by
  unfold Machine.axleArrives
  dsimp only
  split
  · exact h.of_ring
  · split
    · exact h.of_ring
    · (repeat' split)
      · exact h.closeAndReopen ..
      · exact h.closeAndReopen ..
      · exact h.of_ring

theorem rereadPresence (h : RingInv s) (l : Lane) : RingInv (rereadPresence l s) := h.of_ring

theorem closeDelayExpires (h : RingInv s) (l : Lane) : RingInv (closeDelayExpires l s) := by
  unfold Machine.closeDelayExpires
  exact (h.closeVehicle l 0).of_ring

theorem durationExpires (h : RingInv s) (l : Lane) : RingInv (durationExpires l s) := by
  have opened : RingInv (Machine.openSuccessor l (s.context l).successor (Machine.closeVehicle l Flag.timeout s)) :=
    (h.closeVehicle l Flag.timeout).of_ring
  unfold Machine.durationExpires
  dsimp only
  split
  · exact opened.closeVehicle ..
  · exact opened

/-! ### Crossings and the pool -/

theorem matchRowB (b : Crossing) (q : List Crossing) (h : RingInv s) : RingInv (matchRowB b q s) := by
  induction q generalizing s with
  | nil => exact h.of_ring rfl fun _ => rfl
  | cons x rest ih =>
    unfold Machine.matchRowB
    dsimp only
    (repeat' split)
    · exact ih (h.of_ring rfl fun _ => rfl)
    · exact h.of_ring rfl fun _ => rfl
    · have left : RingInv (s.withQueue b.lane rest) := h.of_ring
      exact left.axleArrives ..

theorem routeCrossing (h : RingInv s) (x : Crossing) : RingInv (routeCrossing x s) := by
  unfold Machine.routeCrossing
  split
  · exact h.of_ring
  · exact matchRowB x _ h.of_ring

theorem decideHit (h : RingInv s) (k : PoolHit) : RingInv (decideHit k s) := by
  unfold Machine.decideHit
  dsimp only
  (repeat' split) <;> exact routeCrossing h.of_ring _

theorem joinPool (h : RingInv s) (k : PoolHit) : RingInv (joinPool k s) := by
  unfold Machine.joinPool
  dsimp only
  (repeat' split)
  · exact decideHit h.of_ring _
  · exact h.of_ring
  · exact h.of_ring

theorem hitEnds (h : RingInv s) (c : ChannelId) : RingInv (hitEnds c s) := by
  unfold Machine.hitEnds
  dsimp only
  split
  · exact h.of_ring
  · exact joinPool h.of_ring _

theorem noteEmptied (h : RingInv s) : RingInv (noteEmptied s) := h.of_ring

theorem eventPairing (h : RingInv s) (l : Lane) (r : Row) (i : Nat) : RingInv (eventPairing l r i s) := by
  unfold Machine.eventPairing
  split
  · exact (h.decideHit _).noteEmptied
  · exact h

/-! ### Activation, restart and lane modes -/

theorem activateVa (h : RingInv s) (old : CalSet) : RingInv (activateVa old s) := by
  refine List.foldlRecOn _ _ (List.foldlRecOn _ _ h.of_ring fun u hu l _ => ?duration) fun u hu l _ => ?polarity
  case duration =>
    unfold activateDuration
    split
    · exact hu.durationExpires l
    · exact hu
  case polarity =>
    unfold activatePolarity
    split
    · exact hu.rereadPresence l
    · exact hu

theorem activate (h : RingInv s) : RingInv (activate s) := by
  have taken : RingInv (activatePtu s.cc.active (activateXf (activateSfe s.cc.active (adoptEdits s)))) := h.of_ring
  unfold Machine.activate
  exact (taken.activateVa s.cc.active).of_ring

/-- A restart empties the ring and sets every cursor to the next number, which stays (R135). -/
theorem restarted (s : State) : RingInv (restarted s) := by
  have ring : (Machine.restarted s).rr.ring = [] := rfl
  have next : (Machine.restarted s).rr.next = s.rr.next := rfl
  refine ⟨⟨by rw [ring]; exact Nat.zero_le _, fun i x hx => ?_⟩, fun p on => ?_⟩
  · rw [ring] at hx
    cases hx
  · have was_on : s.disabled p = false := (State.disabled_of_role (by simp)).symm.trans on
    rw [restarted_ringPort, if_neg (by simp [was_on]), Rr.age, next, sub_self]
    exact Nat.zero_le _

theorem restartDevice (s : State) : RingInv (restartDevice s) := by
  rw [restartDevice_eq]
  exact (restarted s).of_ring

theorem closeLane (h : RingInv s) (l : Lane) : RingInv (closeLane l s) := by
  unfold Machine.closeLane
  dsimp only
  split
  · exact h.of_ring
  · exact (h.closeVehicle l Flag.interrupted).of_ring

theorem abortTestOn (h : RingInv s) (l : Lane) : RingInv (abortTestOn l s) := h.of_ring

theorem changeLane (h : RingInv s) (l : Lane) (close : Bool) : RingInv (changeLane l close s) := by
  unfold Machine.changeLane
  split
  · exact h
  · exact (h.closeLane l).noteEmptied
  · exact h.of_ring
  · exact h
  · exact (h.abortTestOn l).noteEmptied
  · exact ((h.abortTestOn l).closeLane l).noteEmptied

/-! ### Power -/

/-- At power-on the ring is empty and every cursor at the next number (R134). -/
theorem applyPower (straps : Tri Strap) (s : State) : RingInv (applyPower straps s) := by
  refine ⟨⟨Nat.zero_le _, fun i x hx => ?_⟩, fun p _ => ?_⟩
  · have ring : (Machine.applyPower straps s).rr.ring = [] := rfl
    rw [ring] at hx
    cases hx
  · have cursor : ((Machine.applyPower straps s).ringPort p).cursor = (Machine.applyPower straps s).rr.next := by
      cases p <;> rfl
    rw [Rr.age, cursor, sub_self]
    exact Nat.zero_le _

/-! ### Port commands -/

theorem requestRestart (h : RingInv s) : RingInv (requestRestart s) := h.of_ring

theorem laneMode (h : RingInv s) (b : List Byte) : RingInv (doLaneMode b s).1 := by
  unfold doLaneMode
  (repeat' split)
  · exact h
  · exact h
  · exact h.changeLane ..

/-- The commands of the ring move a cursor within it or leave it (R125 to R132). -/
theorem ringCommand (h : RingInv s) (p : PortId) (b : List Byte) :
    RingInv (doSetFilter p b s).1 ∧ RingInv (doSetAlerts p b s).1 ∧ RingInv (doFetch p s).1 ∧ RingInv (doReadSeq p b s).1 ∧
    RingInv (doSeek p b s).1 ∧ RingInv (doTakeAlert p s).1 := by
  have cursor := h.2 p
  refine ⟨?_, ?_, ?_, ?_, ?_, ?_⟩
  · unfold doSetFilter
    (repeat' split)
    · exact h
    · exact h
    · exact h.withRingPort p (by exact cursor)
  · unfold doSetAlerts
    split
    · exact h
    · exact h.withRingPort p (by exact cursor)
  · unfold doFetch
    dsimp only
    split <;> exact h.withRingPort p fun on => age_fetchWalk (cursor on) _
  · unfold doReadSeq
    dsimp only
    (repeat' split) <;> exact h
  · unfold doSeek
    split
    · exact h
    · exact h.withRingPort p fun _ => age_seekCursor h.1 ‹_›
  · unfold doTakeAlert
    split
    · exact h
    · exact h.withRingPort p (by exact cursor)

theorem acceptWrite (h : RingInv s) (p : PortId) (b : List Byte) : RingInv (acceptWrite p b s) := by
  unfold Machine.acceptWrite stepPointer
  dsimp only
  refine withPort ?_ rfl
  exact h.of_ring rfl fun _ => rfl

/-- No port command breaks the ring. -/
theorem runCommand (h : RingInv s) (p : PortId) (b : List Byte) (c : CommandId) : RingInv (runCommand p b s c).1 := by
  obtain ⟨setFilter, setAlerts, fetch, readSeq, seek, takeAlert⟩ := h.ringCommand p b
  cases c <;> simp only [Machine.runCommand]
  case setFilter => exact setFilter
  case setAlerts => exact setAlerts
  case fetch => exact fetch
  case readSeq => exact readSeq
  case seek => exact seek
  case takeAlert => exact takeAlert
  case laneMode => exact h.laneMode b
  case restart => exact h.requestRestart
  case status | counters | notices => exact h
  case setClock => exact h.of_ring rfl fun _ => rfl
  case clearCounters => exact ⟨h.1, h.2⟩
  case laneTest =>
    unfold doLaneTest
    (repeat' split)
    case h_1.isFalse.isFalse.isFalse => exact h.of_ring
    all_goals exact h
  case channelResume =>
    unfold doChannelResume
    (repeat' split)
    · exact h
    · exact h.of_ring
    · exact h
  case ackNotices =>
    unfold doAckNotices
    split
    · exact h
    · exact h.withPort (by rw [replaceFlags_eq_noticed, noticed_role])
  case setNotice =>
    unfold doSetNotice
    (repeat' split)
    · exact h
    · exact h
    · refine h.withPort ?_
      unfold replaceNotice startPulse
      dsimp only
      (repeat' split) <;> rfl
  case tableSelect =>
    unfold doTableSelect
    (repeat' split)
    · exact h
    · exact h.withPort rfl
    · exact h
  case tableRead =>
    unfold doTableRead
    dsimp only
    split
    · exact h
    · exact h.withPort rfl
  case tableWrite =>
    unfold doTableWrite
    dsimp only
    (repeat' split)
    · exact h
    · exact h
    · exact h
    · exact h
    all_goals exact h.acceptWrite p b
  case commit =>
    unfold doCommit invalidCommit
    (repeat' split)
    case h_2.isFalse.isFalse => exact h.of_ring
    all_goals exact h
  case discard =>
    unfold doDiscard
    (repeat' split)
    · exact h
    · exact h.of_ring
    · exact h

/-! ### Events -/

theorem losePower (h : RingInv s) : RingInv (losePower s) := h.of_ring rfl fun _ => rfl

theorem takeTick (h : RingInv s) (inputs : Inputs) : RingInv (takeTick inputs s) := h.of_ring rfl fun _ => rfl

theorem hitOverruns (h : RingInv s) (c : ChannelId) : RingInv (hitOverruns c s) := by
  have marked : RingInv (markHeld c.lane ((s.withChannel c (s.channel c).toHeld).countHeld c.lane)) := h.of_ring
  exact marked.raiseAll _

theorem eventInjection (h : RingInv s) : RingInv (eventInjection s) := by
  unfold Machine.eventInjection
  split
  · exact h.of_ring
  · exact h

theorem eventTestExpiry (h : RingInv s) : RingInv (eventTestExpiry s) := by
  unfold Machine.eventTestExpiry
  split
  · exact h.of_ring
  · exact h

theorem claimExpires (h : RingInv s) : RingInv (claimExpires s) := by
  have reverted : RingInv (revertEdits s) := h.of_ring
  exact reverted.raiseAll _

theorem persistCompletes (h : RingInv s) (equal : Bool) : RingInv (persistCompletes equal s) := h.of_ring

end RingInv

theorem ringInv_keptByParts : KeptByParts RingInv where
  pending _ _ h := h.of_ring
  early _ _ h := h.of_ring
  pins _ _ h := h.of_ring
  port _ _ _ role h := h.withPort role
  command p b c _ h := h.runCommand p b c
  activation _ _ h := h.activate
  restart s _ _ := RingInv.restartDevice s
  powerOn straps s _ := RingInv.applyPower straps s
  powerLoss _ h := h.losePower
  tick inputs _ h := h.takeTick inputs
  settling _ _ h := whenever_keeps (fun _ => h.of_ring) h
  hitEnd c _ h := whenever_keeps (fun _ => (h.hitEnds c).noteEmptied) h
  overrun c _ h := whenever_keeps (fun _ => h.hitOverruns c) h
  holdEnd _ _ h := whenever_keeps (fun _ => h.of_ring) h
  second _ h := whenever_keeps (fun _ => h.of_ring) h
  pairing l r i _ h := h.eventPairing l r i
  rowA _ _ h := whenever_keeps (fun _ => h.of_ring) h
  occupied _ _ h := whenever_keeps (fun _ => h.of_ring) h
  released _ _ h := whenever_keeps (fun _ => h.of_ring) h
  closeDelay l _ h := whenever_keeps (fun _ => (h.closeDelayExpires l).noteEmptied) h
  duration l _ h := whenever_keeps (fun _ => (h.durationExpires l).noteEmptied) h
  trigger _ _ h := whenever_keeps (fun _ => h.of_ring) h
  injection _ h := h.eventInjection
  testExpiry _ h := h.eventTestExpiry
  claimIdle _ h := whenever_keeps (fun _ => h.claimExpires) h
  commitTimeout _ h := whenever_keeps (fun _ => h.of_ring) h
  persist equal _ h := whenever_keeps (fun _ => h.persistCompletes equal) h
  persistOverdue s h := whenever_keeps (fun _ =>
    have taken : RingInv { s with freeIndex := s.freeIndex + 1 } := h.of_ring
    taken.persistCompletes _) h
  restartInput s h := whenever_keeps (fun _ =>
    have taken : RingInv { s with pins := { s.pins with restartEdge := false } } := h.of_ring
    taken.requestRestart) h

/-- Settles O33: a commit keeps the run and the cursors, and what empties the ring sets the cursors to its next number. -/
theorem ringKeepsItsRun : Obligations.RingKeepsItsRun := fun _ _ h e => ringInv_keptByParts.step h e

end Sys2Proof.Machine
end

section
/-! The port commands that read the ring: FETCH (R127): O34; READ_SEQ (R128) and SEEK (R130): O36. -/

namespace Sys2Proof.Machine

/-! ### FETCH -/

theorem exec_fetch {p : PortId} {s : State} (h : Taking p s) (tag : Byte) :
    exec (.fetch p tag) s = .next (answered p 0x12 tag (doFetch p s).2 (doFetch p s).1) :=
  arrives_open h ⟨0x12, tag, []⟩ (c := .fetch) rfl rfl rfl

/-- The walk passes over records that the filter fails, one number each. -/
theorem fetchWalk_append {q : RingPort} {skipped : List Record} (fail : ∀ y ∈ skipped, passesFilter q y = false)
    (rest : List Record) (c : Seq) :
    fetchWalk q (skipped ++ rest) c = fetchWalk q rest (c + BitVec.ofNat 32 skipped.length) := by
  induction skipped generalizing c with
  | nil => exact congrArg (fetchWalk q rest) (BitVec.add_zero c).symm
  | cons y ys ih =>
    obtain ⟨fails, rest_fail⟩ := List.forall_mem_cons.mp fail
    rw [List.cons_append, fetchWalk, if_neg (by simp [fails]), ih rest_fail, List.length_cons, ofNat_succ, add_assoc,
      add_comm 1]

/-- The records from a cursor carry the numbers from it on (R117). -/
theorem seq_fromCursor {r : Rr} (run : RingRun r) {c : Seq} (within : r.age c ≤ r.count) {i : Nat} {y : Record}
    (record : (r.fromCursor c)[i]? = some y) : y.seq = c + BitVec.ofNat 32 i := by
  obtain ⟨k, count⟩ := Nat.exists_eq_add_of_le within
  rw [Rr.fromCursor, if_pos within, List.getElem?_drop, count, Nat.add_sub_cancel_left] at record
  rw [run.2 _ y record, eq_sub_of_age (n := r.age c) rfl, ← Rr.count, count, BitVec.ofNat_add, BitVec.ofNat_add]
  ring

/-- The number that is a cursor's age past it is the next. -/
theorem add_age (r : Rr) (c : Seq) : c + BitVec.ofNat 32 (r.age c) = r.next := by
  rw [Rr.age, BitVec.ofNat_toNat, BitVec.setWidth_eq]
  ring

section fetched
variable {s : State} {p : PortId} {skipped : List Record}

/-- FETCH with no record left that passes: EMPTY, with the cursor at the next number. -/
theorem doFetch_empty (within : s.rr.age (s.ringPort p).cursor ≤ s.rr.count)
    (records : s.rr.fromCursor (s.ringPort p).cursor = skipped)
    (fail : ∀ y ∈ skipped, passesFilter (s.ringPort p) y = false) :
    doFetch p s = (s.withRingPort p { s.ringPort p with cursor := s.rr.next },
      ⟨.empty, bytesLE 4 s.rr.next.toNat ++ bytesLE 2 0⟩) := by
  have length := length_fromCursor within
  have walk := fetchWalk_append fail [] (s.ringPort p).cursor
  rw [List.append_nil, ← records, length, add_age] at walk
  have age : (s.withRingPort p { s.ringPort p with cursor := s.rr.next }).rr.age s.rr.next = 0 :=
    congrArg BitVec.toNat (sub_self s.rr.next)
  unfold doFetch
  dsimp only
  rw [walk]
  simp only [fetchWalk, age]

/-- FETCH with a record that passes: it is returned, and the cursor is the number after it. -/
theorem doFetch_ok {y : Record} {tail : List Record} (run : RingRun s.rr)
    (within : s.rr.age (s.ringPort p).cursor ≤ s.rr.count)
    (records : s.rr.fromCursor (s.ringPort p).cursor = skipped ++ y :: tail)
    (fail : ∀ y ∈ skipped, passesFilter (s.ringPort p) y = false) (passes : passesFilter (s.ringPort p) y = true) :
    doFetch p s = (s.withRingPort p { s.ringPort p with cursor := y.seq + 1 },
      ⟨.ok, bytesLE 4 (y.seq + 1).toNat ++ bytesLE 2 tail.length ++ recordBytes (s.ringPort p).format y 1⟩) := by
  have seq : y.seq = (s.ringPort p).cursor + BitVec.ofNat 32 skipped.length :=
    seq_fromCursor run within (by rw [records, List.getElem?_append_right le_rfl, Nat.sub_self, List.getElem?_cons_zero])
  have length : skipped.length + 1 + tail.length = s.rr.age (s.ringPort p).cursor := by
    rw [← length_fromCursor within, records, List.length_append, List.length_cons]
    omega
  have age : (s.withRingPort p { s.ringPort p with cursor := y.seq + 1 }).rr.age (y.seq + 1) = tail.length := by
    have shrinks := age_of_add (k := skipped.length + 1) (next := s.rr.next) (c := (s.ringPort p).cursor)
      ((Nat.le_add_right _ _).trans length.le)
    rw [seq, add_assoc, ← ofNat_succ]
    refine shrinks.trans ?_
    rw [← Rr.age, ← length, Nat.add_sub_cancel_left]
  have walk := fetchWalk_append fail (y :: tail) (s.ringPort p).cursor
  rw [fetchWalk, if_pos passes, ← seq, ← records] at walk
  unfold doFetch
  dsimp only
  rw [walk]
  simp only [age]

end fetched

/-- Settles O34: the records from the cursor are those of the last numbers, so the walk ends at the first that passes. -/
theorem fetchWalksTheRing : Obligations.FetchWalksTheRing := by
  intro s p tag skipped rest taking inv q passes records fail
  obtain ⟨run, cursors⟩ := inv
  have within : s.rr.age q.cursor ≤ s.rr.count := cursors p (decide_eq_false taking.2.2.1)
  have from_cursor : s.rr.fromCursor q.cursor = skipped ++ rest := (if_pos within).trans records
  refine ⟨fun none_left => ?_, fun y tail first passed => ?_⟩
  · rw [none_left, List.append_nil] at from_cursor
    rw [exec_fetch taking, doFetch_empty within from_cursor fail]
  · rw [first] at from_cursor
    rw [exec_fetch taking, doFetch_ok run within from_cursor fail passed]

/-! ### READ_SEQ -/

theorem exec_readSeq {p : PortId} {s : State} (h : Taking p s) (tag : Byte) (seq : Seq) (first : Byte) :
    let b := bytesLE 4 seq.toNat ++ [first]
    exec (.readSeq p tag seq first) s = .next (answered p 0x13 tag (doReadSeq p b s).2 (doReadSeq p b s).1) :=
  arrives_open h ⟨0x13, tag, bytesLE 4 seq.toNat ++ [first]⟩ (c := .readSeq) rfl rfl rfl

section read
variable {s : State} {p : PortId} {seq : Seq} {first : Byte}

theorem doReadSeq_fields (seq : Seq) (first : Byte) :
    wordAt (bytesLE 4 seq.toNat ++ [first]) 0 = seq ∧ byteAt (bytesLE 4 seq.toNat ++ [first]) 4 = first.toNat :=
  ⟨wordAt_bytes seq, rfl⟩

/-- A first axle out of range is refused before anything else. -/
theorem doReadSeq_range (out : first.toNat < 1 ∨ 16 < first.toNat) :
    doReadSeq p (bytesLE 4 seq.toNat ++ [first]) s = (s, ⟨.range, []⟩) := if_pos out

theorem doReadSeq_gone (low : 1 ≤ first.toNat) (high : first.toNat ≤ 16) (place : s.rr.place seq = .gone) :
    doReadSeq p (bytesLE 4 seq.toNat ++ [first]) s = (s, ⟨.gone, ringBounds s⟩) := by
  obtain ⟨word, byte⟩ := doReadSeq_fields seq first
  simp only [doReadSeq, word, byte, place, if_neg (show ¬(first.toNat < 1 ∨ 16 < first.toNat) by omega)]

theorem doReadSeq_notYet (low : 1 ≤ first.toNat) (high : first.toNat ≤ 16) (place : s.rr.place seq = .notYet) :
    doReadSeq p (bytesLE 4 seq.toNat ++ [first]) s = (s, ⟨.notYet, ringBounds s⟩) := by
  obtain ⟨word, byte⟩ := doReadSeq_fields seq first
  simp only [doReadSeq, word, byte, place, if_neg (show ¬(first.toNat < 1 ∨ 16 < first.toNat) by omega)]

/-- A held record is returned from its first axle, which in the FULL format it must have. -/
theorem doReadSeq_held (low : 1 ≤ first.toNat) (high : first.toNat ≤ 16) {y : Record} (place : s.rr.place seq = .held y) :
    doReadSeq p (bytesLE 4 seq.toNat ++ [first]) s =
      (s, if (s.ringPort p).format = .full ∧ y.axleCount < first.toNat then ⟨.range, []⟩
        else ⟨.ok, recordBytes (s.ringPort p).format y first.toNat⟩) := by
  obtain ⟨word, byte⟩ := doReadSeq_fields seq first
  simp only [doReadSeq, word, byte, place, if_neg (show ¬(first.toNat < 1 ∨ 16 < first.toNat) by omega)]
  split <;> rfl

end read

section place
variable {r : Rr} {seq : Seq}

/-- A number older than the ring holds is not held. -/
theorem record?_eq_none (outside : r.age seq = 0 ∨ r.count < r.age seq) : r.record? seq = none :=
  if_neg fun ⟨one, count⟩ => by omega

theorem place_gone (old : r.count < r.age seq) (past : r.age seq ≤ 2 ^ 31) : r.place seq = .gone := by
  rw [Rr.place, record?_eq_none (.inr old)]
  exact if_pos ⟨old, past⟩

theorem place_notYet (run : RingRun r) (ahead : r.age seq = 0 ∨ 2 ^ 31 < r.age seq) : r.place seq = .notYet := by
  have fits : r.count ≤ 256 := run.1
  rw [Rr.place, record?_eq_none (by omega)]
  exact if_neg fun ⟨old, past⟩ => by omega

/-- A record of the run is found under its number. -/
theorem place_held (run : RingRun r) {y : Record} (mem : y ∈ r.ring) (number : y.seq = seq) : r.place seq = .held y := by
  obtain ⟨i, record⟩ := List.mem_iff_getElem?.mp mem
  have inside : i < r.ring.length := (List.getElem?_eq_some_iff.mp record).1
  have fits := run.1
  have oldest_age := age_of_sub r.next (n := r.ring.length) (by omega)
  have age : r.age seq = r.count - i := by
    rw [← number, run.2 i y record, Rr.age, age_of_add (by omega), oldest_age, Rr.count]
  have found : r.record? seq = some y := by
    rw [Rr.record?, age, if_pos (by rw [Rr.count]; omega), Nat.sub_sub_self (by rw [Rr.count]; omega)]
    exact record
  rw [Rr.place, found]

end place

/-! ### SEEK -/

theorem exec_seek {p : PortId} {s : State} (h : Taking p s) (tag target : Byte) (seq : Seq) :
    let b := [target] ++ bytesLE 4 seq.toNat
    exec (.seek p tag target seq) s = .next (answered p 0x14 tag (doSeek p b s).2 (doSeek p b s).1) :=
  arrives_open h ⟨0x14, tag, [target] ++ bytesLE 4 seq.toNat⟩ (c := .seek) rfl rfl rfl

section seek
variable {s : State} {p : PortId} {target : Byte} {seq : Seq}

theorem doSeek_some {c : Seq} (cursor : s.rr.seekCursor target.toNat seq = some c) :
    doSeek p ([target] ++ bytesLE 4 seq.toNat) s =
      (s.withRingPort p { s.ringPort p with cursor := c }, ⟨.ok, bytesLE 4 c.toNat ++ ringBounds s⟩) := by
  have word : wordAt ([target] ++ bytesLE 4 seq.toNat) 1 = seq := wordAt_bytes seq
  have byte : byteAt ([target] ++ bytesLE 4 seq.toNat) 0 = target.toNat := rfl
  simp only [doSeek, word, byte, cursor]

theorem doSeek_none (cursor : s.rr.seekCursor target.toNat seq = none) :
    doSeek p ([target] ++ bytesLE 4 seq.toNat) s = (s, ⟨.range, []⟩) := by
  have word : wordAt ([target] ++ bytesLE 4 seq.toNat) 1 = seq := wordAt_bytes seq
  have byte : byteAt ([target] ++ bytesLE 4 seq.toNat) 0 = target.toNat := rfl
  simp only [doSeek, word, byte, cursor, refuse, Status.alone]

end seek

theorem seekCursor_none {r : Rr} {target : Nat} (unknown : 4 ≤ target) (seq : Seq) : r.seekCursor target seq = none := by
  unfold Rr.seekCursor
  split
  case h_5 => rfl
  all_goals omega

/-- Settles O36: READ_SEQ by the place of its number in the run, SEEK by the cursor that its target names. -/
theorem readSeqAndSeek : Obligations.ReadSeqAndSeek := by
  intro s p tag seq taking inv q count age oldest bounds
  obtain ⟨run, -⟩ := inv
  refine ⟨fun first => ?read, fun target => ?seek⟩
  case read =>
    intro read
    have answer {r : Reply} (h : doReadSeq p (bytesLE 4 seq.toNat ++ [first]) s = (s, r)) : read r := by
      show exec _ _ = _
      rw [exec_readSeq taking, h]
    refine ⟨fun out => answer (doReadSeq_range (by omega)), fun low high => ⟨fun old past => ?_, fun ahead => ?_,
      fun y mem number => ?_⟩⟩
    · exact answer (doReadSeq_gone low high (place_gone old past))
    · exact answer (doReadSeq_notYet low high (place_notYet run ahead))
    · have held := doReadSeq_held (p := p) low high (place_held run mem number)
      refine ⟨fun full short => answer ?_, fun fits => answer ?_⟩
      · rw [held, if_pos ⟨full, short⟩]
      · rw [held, if_neg]
        rintro ⟨full, short⟩
        rcases fits with summary | enough
        · cases full.symm.trans summary
        · omega
  case seek =>
    intro moved refused
    have move {c : Seq} (h : s.rr.seekCursor target.toNat seq = some c) : moved c := by
      show exec _ _ = _
      rw [exec_seek taking, doSeek_some h]
      rfl
    have refuse (h : s.rr.seekCursor target.toNat seq = none) : refused := by
      show exec _ _ = _
      rw [exec_seek taking, doSeek_none h]
    refine ⟨fun h => move ?_, fun h some_record => move ?_, fun h none_held => move ?_, fun h => move ?_,
      fun h within => move ?_, fun h outside => refuse ?_, fun h => refuse (seekCursor_none h seq)⟩ <;> rw [h]
    · rfl
    · exact congrArg some (if_neg (List.length_pos_of_ne_nil some_record).ne')
    · exact congrArg some (if_pos (by rw [Rr.count, none_held]; rfl))
    · rfl
    · exact if_pos within
    · exact if_neg outside.not_ge

end Sys2Proof.Machine
end

section
/-! What a port sets and takes of its own: SET_FILTER (R125), SET_ALERTS (R131) and TAKE_ALERT (R132): O37. -/

namespace Sys2Proof.Machine

/-! ### SET_FILTER -/

theorem exec_setFilter {p : PortId} {s : State} (h : Taking p s) (tag lanes : Byte) (classes : BitVec 32) (format : Byte) :
    let b := [lanes] ++ bytesLE 4 classes.toNat ++ [format]
    exec (.setFilter p tag lanes classes format) s =
      .next (answered p 0x10 tag (doSetFilter p b s).2 (doSetFilter p b s).1) :=
  arrives_open h ⟨0x10, tag, [lanes] ++ bytesLE 4 classes.toNat ++ [format]⟩ (c := .setFilter) rfl rfl rfl

/-- A byte whose number is small is that choice's byte. -/
theorem choiceByte_toNat (x : Byte) : choiceByte x.toNat = [x] := by rw [choiceByte, BitVec.ofNat_toNat, BitVec.setWidth_eq]

theorem formatOf_some {n : Nat} (h : n < 2) : formatOf n = some (if n = 0 then .full else .summary) := by
  interval_cases n <;> rfl

theorem formatOf_none {n : Nat} (h : 2 ≤ n) : formatOf n = none := by
  unfold formatOf
  split
  case h_3 => rfl
  all_goals omega

theorem formatCode_choice {n : Nat} (h : n < 2) : formatCode (if n = 0 then .full else .summary) = n := by
  interval_cases n <;> rfl

section filter
variable {s : State} {p : PortId} {lanes format : Byte} {classes : BitVec 32}

theorem doSetFilter_fields (lanes format : Byte) (classes : BitVec 32) :
    byteAt ([lanes] ++ bytesLE 4 classes.toNat ++ [format]) 0 = lanes.toNat ∧
    wordAt ([lanes] ++ bytesLE 4 classes.toNat ++ [format]) 1 = classes ∧
    byteAt ([lanes] ++ bytesLE 4 classes.toNat ++ [format]) 5 = format.toNat := ⟨rfl, wordAt_bytes classes, rfl⟩

/-- A filter and a format in range replace the port's, and are answered as they were written. -/
theorem doSetFilter_ok (lanes_fit : lanes.toNat < 16) (format_fits : format.toNat < 2) :
    doSetFilter p ([lanes] ++ bytesLE 4 classes.toNat ++ [format]) s =
      (s.withRingPort p { s.ringPort p with
        laneMask := lanes.setWidth 4, classMask := classes, format := if format.toNat = 0 then .full else .summary },
      ⟨.ok, [lanes] ++ bytesLE 4 classes.toNat ++ [format]⟩) := by
  obtain ⟨byte_lanes, word_classes, byte_format⟩ := doSetFilter_fields lanes format classes
  have masked : bytesLE 1 (lanes.setWidth 4).toNat = [lanes] := by
    rw [BitVec.toNat_setWidth, Nat.mod_eq_of_lt lanes_fit]
    exact choiceByte_toNat lanes
  unfold doSetFilter
  rw [byte_lanes, word_classes, byte_format, formatOf_some format_fits]
  dsimp only
  rw [if_neg (by omega), BitVec.ofNat_toNat, filterBytes, masked, formatCode_choice format_fits, choiceByte_toNat]

/-- A lane mask or a format out of range is refused. -/
theorem doSetFilter_range (out : 16 ≤ lanes.toNat ∨ 2 ≤ format.toNat) :
    doSetFilter p ([lanes] ++ bytesLE 4 classes.toNat ++ [format]) s = (s, ⟨.range, []⟩) := by
  obtain ⟨byte_lanes, -, byte_format⟩ := doSetFilter_fields lanes format classes
  unfold doSetFilter
  rw [byte_lanes, byte_format]
  by_cases known : format.toNat < 2
  · rw [formatOf_some known]
    exact if_pos (out.resolve_right (by omega))
  · rw [formatOf_none (by omega)]
    rfl

end filter

/-! ### SET_ALERTS and TAKE_ALERT -/

theorem exec_setAlerts {p : PortId} {s : State} (h : Taking p s) (tag x : Byte) : exec (.setAlerts p tag x) s =
    .next (answered p 0x11 tag (doSetAlerts p [x] s).2 (doSetAlerts p [x] s).1) :=
  arrives_open h ⟨0x11, tag, [x]⟩ (c := .setAlerts) rfl rfl rfl

theorem exec_takeAlert {p : PortId} {s : State} (h : Taking p s) (tag : Byte) : exec (.takeAlert p tag) s =
    .next (answered p 0x15 tag (doTakeAlert p s).2 (doTakeAlert p s).1) :=
  arrives_open h ⟨0x15, tag, []⟩ (c := .takeAlert) rfl rfl rfl

/-- The subscription of a code in range. -/
theorem subscriptionOf_some {n : Nat} (h : n < 3) :
    subscriptionOf n = some (if n = 0 then .off else if n = 1 then .enforceableOnly else .all) := by
  interval_cases n <;> rfl

theorem subscriptionOf_none {n : Nat} (h : 3 ≤ n) : subscriptionOf n = none := by
  unfold subscriptionOf
  split
  case h_4 => rfl
  all_goals omega

theorem subscriptionCode_choice {n : Nat} (h : n < 3) :
    subscriptionCode (if n = 0 then .off else if n = 1 then .enforceableOnly else .all) = n := by
  interval_cases n <;> rfl

section alerts
variable {s : State} {p : PortId}

theorem doSetAlerts_ok {x : Byte} (known : x.toNat < 3) : doSetAlerts p [x] s =
    (s.withRingPort p { s.ringPort p with
      subscription := if x.toNat = 0 then .off else if x.toNat = 1 then .enforceableOnly else .all }, ⟨.ok, [x]⟩) := by
  have byte : byteAt [x] 0 = x.toNat := rfl
  unfold doSetAlerts
  rw [byte, subscriptionOf_some known]
  dsimp only
  rw [subscriptionCode_choice known, choiceByte_toNat]

theorem doSetAlerts_range {x : Byte} (unknown : 3 ≤ x.toNat) : doSetAlerts p [x] s = (s, ⟨.range, []⟩) := by
  have byte : byteAt [x] 0 = x.toNat := rfl
  unfold doSetAlerts
  rw [byte, subscriptionOf_none unknown]
  rfl

theorem doTakeAlert_cons {e : AlertEntry} {rest : List AlertEntry} (queue : (s.ringPort p).alerts = e :: rest) :
    doTakeAlert p s = (s.withRingPort p { s.ringPort p with alerts := rest },
      ⟨.ok, alertBytes e ++ bytesLE 1 rest.length⟩) := by
  unfold doTakeAlert
  rw [queue]

theorem doTakeAlert_nil (queue : (s.ringPort p).alerts = []) : doTakeAlert p s = (s, ⟨.empty, [0]⟩) := by
  unfold doTakeAlert
  rw [queue]
  rfl

end alerts

/-- Settles O37: each command by its fields in range and out of it, and by the alert queue. -/
theorem portRingSettings : Obligations.PortRingSettings := by
  intro s p tag taking q
  refine ⟨fun lanes classes format => ⟨fun lanes_fit format_fits => ?_, fun out => ?_⟩,
    fun x => ⟨fun known => ?_, fun unknown => ?_⟩, fun e rest queue => ?_, fun queue => ?_⟩
  · rw [exec_setFilter taking, doSetFilter_ok lanes_fit format_fits]
  · rw [exec_setFilter taking, doSetFilter_range out]
  · rw [exec_setAlerts taking, doSetAlerts_ok known]
  · rw [exec_setAlerts taking, doSetAlerts_range unknown]
  · rw [exec_takeAlert taking, doTakeAlert_cons queue]
  · rw [exec_takeAlert taking, doTakeAlert_nil queue]

end Sys2Proof.Machine
end

section
/-! The layouts of a record, an axle entry and an alert entry (11.2, 11.3, R118, R122, R126, R189): O35. -/

namespace Sys2Proof.Machine

/-! ### A layout: fields of given widths in order -/

/-- A field of a layout: its width in bytes and its number. -/
abbrev Field := Nat × Nat

/-- The bytes of fields in order (R189). -/
def layout (fs : List Field) : List Byte := fs.flatMap fun f => bytesLE f.1 f.2

/-- The offset of the field at a place: the widths of those before it. -/
def offsetOf (fs : List Field) (i : Nat) : Nat := ((fs.take i).map Prod.fst).sum

/-- Every number fits into the width of its field. -/
def Fit (fs : List Field) : Prop := ∀ f ∈ fs, f.2 < 256 ^ f.1

theorem fit_nil : Fit [] := List.forall_mem_nil _

theorem fit_cons {f : Field} {fs : List Field} : Fit (f :: fs) ↔ f.2 < 256 ^ f.1 ∧ Fit fs := List.forall_mem_cons

theorem fit_append {fs gs : List Field} (hf : Fit fs) (hg : Fit gs) : Fit (fs ++ gs) :=
  List.forall_mem_append.mpr ⟨hf, hg⟩

@[simp] theorem length_bytesLE (w n : Nat) : (bytesLE w n).length = w := by
  induction w generalizing n with
  | zero => rfl
  | succ w ih => rw [bytesLE, List.length_cons, ih]

/-- A number that fits into its bytes reads back (R189). -/
theorem numberLE_bytesLE {w n : Nat} (fits : n < 256 ^ w) : numberLE (bytesLE w n) = n := by
  induction w generalizing n with
  | zero => rw [pow_zero] at fits; rw [bytesLE, numberLE]; omega
  | succ w ih =>
    have rest : n / 256 < 256 ^ w := Nat.div_lt_of_lt_mul (by rwa [mul_comm, ← pow_succ])
    rw [bytesLE, numberLE, ih rest, BitVec.toNat_ofNat]
    omega

@[simp] theorem layout_nil : layout [] = [] := rfl

@[simp] theorem layout_cons (f : Field) (fs : List Field) : layout (f :: fs) = bytesLE f.1 f.2 ++ layout fs := rfl

@[simp] theorem layout_append (fs gs : List Field) : layout (fs ++ gs) = layout fs ++ layout gs := List.flatMap_append

theorem numberAt_append_left {a b : List Byte} {offset width : Nat} (h : offset + width ≤ a.length) :
    numberAt (a ++ b) offset width = numberAt a offset width := by
  rw [numberAt, numberAt, List.drop_append_of_le_length (by omega), List.take_append_of_le_length (by
    rw [List.length_drop]; omega)]

theorem numberAt_append_right (a b : List Byte) (offset width : Nat) :
    numberAt (a ++ b) (a.length + offset) width = numberAt b offset width := by
  rw [numberAt, numberAt, List.drop_length_add_append]

/-- The field at a place of a layout reads back at its offset, whatever follows the layout. -/
theorem numberAt_layout_append {fs : List Field} (fit : Fit fs) (b : List Byte) {i : Nat} {f : Field}
    (place : fs[i]? = some f) : numberAt (layout fs ++ b) (offsetOf fs i) f.1 = f.2 := by
  induction fs generalizing i with
  | nil => cases place
  | cons g gs ih =>
    obtain ⟨first, rest⟩ := List.forall_mem_cons.mp fit
    rw [layout_cons, List.append_assoc]
    cases i with
    | zero =>
      obtain rfl := Option.some.inj place
      have offset : offsetOf (g :: gs) 0 = 0 := rfl
      rw [offset, numberAt_append_left (by simp), numberAt, List.drop_zero, List.take_of_length_le (by simp),
        numberLE_bytesLE first]
    | succ i =>
      have offset : offsetOf (g :: gs) (i + 1) = (bytesLE g.1 g.2).length + offsetOf gs i := by simp [offsetOf]
      rw [offset, numberAt_append_right]
      exact ih rest place

/-- A number in a block of a run of blocks of one length. -/
theorem numberAt_flatMap {α : Type} {f : α → List Byte} {n : Nat} (length : ∀ a, (f a).length = n) {as : List α} {i : Nat}
    {a : α} (place : as[i]? = some a) {offset width : Nat} (inside : offset + width ≤ n) :
    numberAt (as.flatMap f) (n * i + offset) width = numberAt (f a) offset width := by
  induction as generalizing i with
  | nil => cases place
  | cons b bs ih =>
    rw [List.flatMap_cons]
    cases i with
    | zero =>
      obtain rfl := Option.some.inj place
      rw [Nat.mul_zero, Nat.zero_add, numberAt_append_left (by rw [length]; exact inside)]
    | succ i =>
      have offset_eq : n * (i + 1) + offset = (f b).length + (n * i + offset) := by rw [length, Nat.mul_succ]; omega
      rw [offset_eq, numberAt_append_right]
      exact ih place

/-! ### The layouts -/

theorem choiceByte_eq (n : Nat) : choiceByte n = bytesLE 1 n := rfl

theorem optLE_eq (w : Nat) (x : Option Nat) : optLE w x = bytesLE w (x.getD (256 ^ w - 1)) := by cases x <;> rfl

/-- The worst check's three fields: the excess, the kind and the index, absent as 0, FFh and FFh (11.2). -/
def worstFields (w : Option Worst) : List Field :=
  [(2, (w.map Worst.excess).getD 0), (1, (w.map fun x => checkCode x.kind).getD 255), (1, (w.bind Worst.index).getD 255)]

theorem worstBytes_eq (w : Option Worst) : worstBytes w = layout (worstFields w) := by
  rcases w with _ | ⟨excess, kind, index⟩
  · rfl
  · cases index <;> rfl

/-- The fields of the record head (11.2). -/
def headFields (x : Record) : List Field :=
  [(4, x.seq.toNat), (1, laneNumber x.lane), (4, x.openTime.seconds.toNat), (2, x.openTime.tick),
   (4, x.closeTime.seconds.toNat), (2, x.closeTime.tick), (1, x.axleCount), (2, x.speed), (4, x.gross), (1, x.code),
   (1, x.profile), (1, alertCode x.alert)] ++ worstFields x.worst ++
  [(2, signed16 x.firstTemp), (2, x.firstFt), (4, x.revision.toNat), (4, x.flags.toNat)]

theorem headBytes_eq (x : Record) : headBytes x = layout (headFields x) := by
  simp [headBytes, headFields, worstBytes_eq, stampBytes, tempBytes, choiceByte_eq, recordFlagBits]

/-- The fields of an axle entry (11.2). -/
def axleFields (a : AxleEntry) : List Field :=
  [(4, a.time.toNat), (2, a.speed), (2, a.spacing.getD 65535), (2, a.right.getD 65535), (2, a.left.getD 65535), (2, a.load),
   (2, a.flags.toNat % 1024)]

theorem axleBytes_eq (a : AxleEntry) : axleBytes a = layout (axleFields a) := by
  simp [axleBytes, axleFields, optLE_eq, axleFlagBits]

/-- The fields of an alert entry (11.2). -/
def alertFields (e : AlertEntry) : List Field :=
  [(4, e.seq.toNat), (1, laneNumber e.lane), (1, e.code), (1, alertCode e.alert)] ++ worstFields e.worst ++
  [(4, e.closeTime.seconds.toNat), (2, e.closeTime.tick)]

theorem alertBytes_eq (e : AlertEntry) : alertBytes e = layout (alertFields e) := by
  simp [alertBytes, alertFields, worstBytes_eq, stampBytes, choiceByte_eq]

/-! ### Every number fits (R118, R122) -/

theorem laneNumber_le (l : Lane) : laneNumber l ≤ 4 := by cases l <;> decide

theorem alertCode_le (k : AlertKind) : alertCode k ≤ 2 := by cases k <;> decide

theorem checkCode_le (k : CheckKind) : checkCode k ≤ 3 := by cases k <;> decide

theorem signed16_lt (t : Int) : signed16 t < 65536 := by
  unfold signed16
  omega

theorem fit_worst {w : Option Worst}
    (ranges : ∀ x, w = some x → x.excess ≤ 65535 ∧ ∀ i, x.index = some i → i ≤ 16) : Fit (worstFields w) := by
  cases w with
  | none => simp [Fit, worstFields]
  | some x =>
    obtain ⟨excess_le, index_le⟩ := ranges x rfl
    have kind_le := checkCode_le x.kind
    have index_fits : x.index.getD 255 ≤ 255 := by
      cases index : x.index with
      | none => exact le_rfl
      | some i => exact (index_le i index).trans (by decide)
    simp only [worstFields, fit_cons, fit_nil, Option.map_some, Option.getD_some, Option.bind_some, and_true]
    refine ⟨?_, ?_, ?_⟩ <;> omega

theorem fit_head {x : Record} (openTick : x.openTime.tick < 16384) (closeTick : x.closeTime.tick < 16384)
    (count : x.axleCount ≤ 16) (speed : x.speed ≤ 60000) (gross : x.gross ≤ 1048575) (code : x.code ≤ 31)
    (profile : x.profile ≤ 15) (ft : x.firstFt ≤ 32767)
    (worst : ∀ w, x.worst = some w → w.excess ≤ 65535 ∧ ∀ i, w.index = some i → i ≤ 16) : Fit (headFields x) := by
  have seq := x.seq.isLt
  have lane := laneNumber_le x.lane
  have openSeconds := x.openTime.seconds.isLt
  have closeSeconds := x.closeTime.seconds.isLt
  have alert := alertCode_le x.alert
  have temp := signed16_lt x.firstTemp
  have revision := x.revision.isLt
  have flags := x.flags.isLt
  refine fit_append (fit_append ?_ (fit_worst worst)) ?_ <;>
    simp only [fit_cons, fit_nil, and_true]
  · refine ⟨?_, ?_, ?_, ?_, ?_, ?_, ?_, ?_, ?_, ?_, ?_, ?_⟩ <;> omega
  · refine ⟨?_, ?_, ?_, ?_⟩ <;> omega

theorem fit_axle {a : AxleEntry} (speed : a.speed ≤ 60000) (spacing : ∀ y, a.spacing = some y → y ≤ 2000)
    (right : ∀ y, a.right = some y → y ≤ 32767) (left : ∀ y, a.left = some y → y ≤ 32767) (load : a.load ≤ 65534) :
    Fit (axleFields a) := by
  have absent {o : Option Nat} {m : Nat} (hm : m ≤ 65535) (h : ∀ y, o = some y → y ≤ m) : o.getD 65535 ≤ 65535 := by
    cases o with
    | none => exact le_rfl
    | some y => exact (h y rfl).trans hm
  have time := a.time.isLt
  have spacing_fits := absent (by decide) spacing
  have right_fits := absent (by decide) right
  have left_fits := absent (by decide) left
  simp only [axleFields, fit_cons, fit_nil, and_true]
  refine ⟨?_, ?_, ?_, ?_, ?_, ?_, ?_⟩ <;> omega

theorem fit_alert {e : AlertEntry} (code : e.code ≤ 31) (tick : e.closeTime.tick < 16384)
    (worst : ∀ w, e.worst = some w → w.excess ≤ 65535 ∧ ∀ i, w.index = some i → i ≤ 16) : Fit (alertFields e) := by
  have seq := e.seq.isLt
  have lane := laneNumber_le e.lane
  have alert := alertCode_le e.alert
  have seconds := e.closeTime.seconds.isLt
  refine fit_append (fit_append ?_ (fit_worst worst)) ?_ <;>
    simp only [fit_cons, fit_nil, and_true]
  · refine ⟨?_, ?_, ?_, ?_⟩ <;> omega
  · refine ⟨?_, ?_⟩ <;> omega

/-! ### Lengths -/

theorem length_headBytes (x : Record) : (headBytes x).length = 43 := by
  simp [headBytes_eq, headFields, worstFields]

theorem length_axleBytes (a : AxleEntry) : (axleBytes a).length = 16 := by
  simp [axleBytes_eq, axleFields]

theorem length_alertBytes (e : AlertEntry) : (alertBytes e).length = 17 := by
  simp [alertBytes_eq, alertFields, worstFields]

/-- A record begins with its head in either format (R126). -/
theorem recordBytes_head (f : Format) (x : Record) (first : Nat) : ∃ b, recordBytes f x first = headBytes x ++ b := by
  cases f <;> exact ⟨_, rfl⟩

/-- An axle page: its two counts, then entries of 16 bytes (R126). -/
theorem pageBytes_eq (x : Record) (first : Nat) : pageBytes x first =
    layout [(1, first), (1, min 8 (x.axles.length - (first - 1)))] ++
      ((x.axles.drop (first - 1)).take 8).flatMap axleBytes := by
  simp [pageBytes, List.length_take]

theorem length_pageBytes (x : Record) (first : Nat) :
    (pageBytes x first).length = 2 + 16 * min 8 (x.axles.length - (first - 1)) := by
  simp [pageBytes_eq, List.length_flatMap, length_axleBytes, mul_comm]
  omega

theorem numberAt_after_head (x : Record) (b : List Byte) (offset width : Nat) :
    numberAt (headBytes x ++ b) (43 + offset) width = numberAt b offset width := by
  rw [← length_headBytes x, numberAt_append_right]

/-- The number in an axle entry of a FULL record, at the offset of the entry (11.2). -/
theorem numberAt_entry {x : Record} {first i : Nat} {a : AxleEntry} (inside : i < 8)
    (place : x.axles[first - 1 + i]? = some a) {offset width : Nat} (fits : offset + width ≤ 16) :
    numberAt (recordBytes .full x first) (45 + 16 * i + offset) width = numberAt (axleBytes a) offset width := by
  have entry : ((x.axles.drop (first - 1)).take 8)[i]? = some a := by
    rw [List.getElem?_take_of_lt inside, List.getElem?_drop, place]
  have counts : (layout [(1, first), (1, min 8 (x.axles.length - (first - 1)))]).length = 2 := rfl
  have offset_eq : 45 + 16 * i + offset = 43 + (2 + (16 * i + offset)) := by omega
  have bytes : recordBytes .full x first = headBytes x ++ pageBytes x first := rfl
  rw [bytes, pageBytes_eq, offset_eq, numberAt_after_head, ← counts, numberAt_append_right,
    numberAt_flatMap length_axleBytes entry fits]

/-! ### Fields in a payload -/

/-- The field at a place of a layout that a payload begins with, its offset reckoned from the layout's widths. -/
theorem field_at {fs : List Field} {widths : List Nat} (fit : Fit fs) (widths_eq : fs.map Prod.fst = widths) {b : List Byte}
    {rest : List Byte} (bytes : b = layout fs ++ rest) (i : Nat) {w v offset : Nat} (place : fs[i]? = some (w, v))
    (offset_eq : (widths.take i).sum = offset) : numberAt b offset w = v := by
  have read := numberAt_layout_append fit rest place
  rwa [offsetOf, List.map_take, widths_eq, offset_eq, ← bytes] at read

/-- The widths of the record head's fields (11.2). -/
theorem headFields_widths (x : Record) :
    (headFields x).map Prod.fst = [4, 1, 4, 2, 4, 2, 1, 2, 4, 1, 1, 1, 2, 1, 1, 2, 2, 4, 4] := rfl

/-- The widths of an axle entry's fields (11.2). -/
theorem axleFields_widths (a : AxleEntry) : (axleFields a).map Prod.fst = [4, 2, 2, 2, 2, 2, 2] := rfl

/-- The widths of an alert entry's fields (11.2). -/
theorem alertFields_widths (e : AlertEntry) : (alertFields e).map Prod.fst = [4, 1, 1, 1, 2, 1, 1, 4, 2] := rfl

/-- A SUMMARY record: the head and the group count (R126, 11.2). -/
theorem summary_layout {x : Record} (first : Nat) (groups : x.groupCount ≤ 16) :
    let b := recordBytes .summary x first
    b.length = 44 ∧ numberAt b 43 1 = x.groupCount := by
  have whole : recordBytes .summary x first = headBytes x ++ (layout [(1, x.groupCount)] ++ []) := rfl
  have fit : Fit [(1, x.groupCount)] := fit_cons.mpr ⟨by dsimp only; omega, fit_nil⟩
  dsimp only
  rw [whole]
  refine ⟨by rw [List.length_append, length_headBytes]; rfl, ?_⟩
  exact (numberAt_after_head x _ 0 1).trans (field_at fit rfl rfl 0 rfl rfl)

/-- A FULL record: the head, the page's first axle and number of entries, and the entries (R126, 11.2). -/
theorem full_layout (x : Record) {first : Nat} (high : first ≤ 16) :
    let b := recordBytes .full x first
    let count := min 8 (x.axles.length - (first - 1))
    b.length = 45 + 16 * count ∧ numberAt b 43 1 = first ∧ numberAt b 44 1 = count := by
  intro b count
  have whole : b = headBytes x ++ pageBytes x first := rfl
  have page := pageBytes_eq x first
  have fit : Fit [(1, first), (1, count)] :=
    fit_cons.mpr ⟨by dsimp only; omega, fit_cons.mpr ⟨by dsimp only; omega, fit_nil⟩⟩
  rw [whole]
  refine ⟨by rw [List.length_append, length_headBytes, length_pageBytes]; omega, ?_, ?_⟩
  · exact (numberAt_after_head x _ 0 1).trans (field_at fit rfl page 0 rfl rfl)
  · exact (numberAt_after_head x _ 1 1).trans (field_at fit rfl page 1 rfl rfl)

/-- Settles O35: each layout is a list of fields, each of which reads back at its offset. -/
theorem recordsAreCoded : Obligations.RecordsAreCoded := by
  refine ⟨?record, ?alert⟩
  case record =>
    intro f x first openTick closeTick count speed gross code profile tempLow tempHigh ft groups worst b n
    have fit := fit_head openTick closeTick count speed gross code profile ft worst
    obtain ⟨rest, bytes⟩ : ∃ rest, b = layout (headFields x) ++ rest := headBytes_eq x ▸ recordBytes_head f x first
    have field := @field_at _ _ fit (headFields_widths x) b _ bytes
    refine ⟨field 0 rfl rfl, field 1 rfl rfl, field 2 rfl rfl, field 3 rfl rfl, field 4 rfl rfl, field 5 rfl rfl,
      field 6 rfl rfl, field 7 rfl rfl, field 8 rfl rfl, field 9 rfl rfl, field 10 rfl rfl, (field 11 rfl rfl).trans ?_,
      (field 12 rfl rfl).trans ?_, (field 13 rfl rfl).trans ?_, field 14 rfl rfl,
      (congrArg Nat.cast (field 15 rfl rfl)).trans ?_, field 16 rfl rfl, field 17 rfl rfl, field 18 rfl rfl,
      fun summary => ?summary, fun full low high => ?full⟩
    · cases x.alert <;> rfl
    · cases x.worst <;> rfl
    · rcases x.worst with _ | ⟨_, kind, _⟩
      · rfl
      · cases kind <;> rfl
    · unfold signed16
      split <;> omega
    case summary =>
      subst summary
      exact summary_layout first groups
    case full =>
      subst full
      obtain ⟨length, first_eq, count_eq⟩ := full_layout x high
      refine ⟨length, first_eq, count_eq, fun i a inside place axleSpeed spacing right left load => ?_⟩
      intro o
      have entry_fit := fit_axle axleSpeed spacing right left load
      have entry := @field_at _ _ entry_fit (axleFields_widths a) (axleBytes a) [] (by rw [axleBytes_eq, List.append_nil])
      have read {offset width v : Nat} (fits : offset + width ≤ 16) (value : numberAt (axleBytes a) offset width = v) :
          n (o + offset) width = v := (numberAt_entry (by omega) place fits).trans value
      exact ⟨read (offset := 0) (by decide) (entry 0 rfl rfl), read (by decide) (entry 1 rfl rfl),
        read (by decide) (entry 2 rfl rfl), read (by decide) (entry 3 rfl rfl), read (by decide) (entry 4 rfl rfl),
        read (by decide) (entry 5 rfl rfl), read (by decide) (entry 6 rfl rfl)⟩
  case alert =>
    intro e code tick worst b n
    have fit := fit_alert code tick worst
    have bytes : b = layout (alertFields e) ++ [] := (alertBytes_eq e).trans (List.append_nil _).symm
    have field := @field_at _ _ fit (alertFields_widths e) b _ bytes
    refine ⟨length_alertBytes e, field 0 rfl rfl, field 1 rfl rfl, field 2 rfl rfl, (field 3 rfl rfl).trans ?_,
      (field 4 rfl rfl).trans ?_, (field 5 rfl rfl).trans ?_, field 6 rfl rfl, field 7 rfl rfl, field 8 rfl rfl⟩
    · cases e.alert <;> rfl
    · cases e.worst <;> rfl
    · rcases e.worst with _ | ⟨_, kind, _⟩
      · rfl
      · cases kind <;> rfl

end Sys2Proof.Machine
end

section
/-! SUPPORT. What every step keeps where its parts keep it between one settlement and the next: an activation or a restart
whose moment has come precedes every event (R151, R156), so that a part of a step meets neither. -/

namespace Sys2Proof.Machine

/-! ### The parts of a step -/

/-- Neither an activation nor a restart is about to take effect. -/
def Settled (s : State) : Prop := s.cc.activationDue = false ∧ s.cc.restartDue = false

theorem settled_settleUrgent (s : State) : Settled (settleUrgent s) := settleUrgent_settles s

theorem settleUrgent_activation {s : State} (due : s.cc.activationDue = true) (quiet : s.cc.restartDue = false) :
    settleUrgent s = activate s := by
  simp [settleUrgent, due, activate_cc, quiet]

theorem settleUrgent_restart {s : State} (quiet : s.cc.activationDue = false) (due : s.cc.restartDue = true) :
    settleUrgent s = restartDevice s := by
  simp [settleUrgent, quiet, due]

theorem Settled.of_cc {s t : State} (h : Settled s) (cc : t.cc = s.cc) : Settled t := by
  rw [Settled, cc]
  exact h

/-- The device's own events. -/
inductive OwnEvent : (State → State) → Prop where
  | settling (c : ChannelId) : OwnEvent (eventSettling c)
  | hitEnd (c : ChannelId) : OwnEvent (eventHitEnd c)
  | overrun (c : ChannelId) : OwnEvent (eventOverrun c)
  | holdEnd (c : ChannelId) : OwnEvent (eventHoldEnd c)
  | second : OwnEvent eventSecond
  | pairing (l : Lane) (r : Row) (i : Nat) : OwnEvent (eventPairing l r i)
  | rowA (l : Lane) : OwnEvent (eventRowA l)
  | occupied (l : Lane) : OwnEvent (eventOccupied l)
  | released (l : Lane) : OwnEvent (eventReleased l)
  | closeDelay (l : Lane) : OwnEvent (eventCloseDelay l)
  | duration (l : Lane) : OwnEvent (eventDuration l)
  | trigger (l : Lane) : OwnEvent (eventTrigger l)
  | injection : OwnEvent eventInjection
  | testExpiry : OwnEvent eventTestExpiry
  | claimIdle : OwnEvent eventClaimIdle
  | commitTimeout : OwnEvent eventCommitTimeout
  | activation : OwnEvent eventActivation
  | persist (equal : Bool) : OwnEvent (eventPersist equal)
  | persistOverdue : OwnEvent eventPersistOverdue
  | restartInput : OwnEvent eventRestartInput

/-- The parts of a step keep a predicate: writes to the fields that belong to no block, the sample, what comes at once, and,
where nothing comes at once, the port commands and the device's own events. -/
structure KeptWhenSettled (I : State → Prop) : Prop where
  early : ∀ s e, I s → I { s with early := e }
  pins : ∀ s x, I s → I { s with pins := x }
  port : ∀ p x s, I s → I (s.withPort p x)
  tick : ∀ inputs s, I s → I (takeTick inputs s)
  urgent : ∀ s, I s → I (settleUrgent s)
  command : ∀ p b c s, Settled s → I s → I (runCommand p b s c).1
  event : ∀ {e}, OwnEvent e → ∀ s, Settled s → I s → I (e s)

/-! ### Frames before the first sample tick -/

/-- Before the first sample tick a frame that is served joins the list of early frames (R188). -/
theorem serve_unstarted {s : State} (h : s.clock.started = false) (p : PortId) (f : Frame) :
    ∃ e, serve p f s = { s with early := e } := by
  by_cases hd : s.disabled p = true
  · exact ⟨s.early, by simp [serve, hd]⟩
  · exact ⟨s.early ++ [(p, f)], by simp [serve, hd, h]⟩

/-- Before the first sample tick a completed frame acts on nothing but its port and that list. -/
theorem frameCompletes_unstarted {s : State} (h : s.clock.started = false) (p : PortId) :
    ∃ x e, frameCompletes p s = { s.withPort p x with early := e } := by
  unfold frameCompletes
  dsimp only
  split
  · split
    · exact ⟨_, serve_unstarted (by exact h) ..⟩
    · exact ⟨_, _, rfl⟩
  all_goals exact ⟨s.port p, s.early, by rw [State.withPort_port]⟩

theorem completeEarlier_started {s : State} (h : s.clock.started = true) : completeEarlier s = s := if_pos h

theorem settled_eventActivation {s : State} (hs : Settled s) : Settled (eventActivation s) := by
  unfold eventActivation whenever
  split
  · exact ⟨by rw [activate_cc], by rw [activate_cc]; exact hs.2⟩
  · exact hs

theorem settled_settleDue {s : State} (hs : Settled s) : Settled (settleDue s) := by
  unfold settleDue
  split
  · exact settled_eventActivation (List.foldlRecOn (motive := Settled) _ _ (settled_settleUrgent _)
      fun _ _ _ _ => settled_settleUrgent _)
  · exact hs

/-- A row of a port command is its frame, arriving. -/
theorem exec_portFrame {c : Instr} {p : PortId} {f : Frame} (h : portFrame c = some (p, f)) (s : State) :
    exec c s = onLive (frameArrives p f) s := by
  cases c <;> cases h <;> rfl

/-- Every command but POWER_ON and RESTART_TAKES_EFFECT has an effect of its own, after what comes at once. -/
theorem exec_cases (c : Instr) :
    (∃ straps, c = .powerOn straps) ∨ c = .restartTakesEffect ∨ ∃ f, ∀ s, exec c s = onLive f s := by
  cases c with
  | powerOn straps => exact .inl ⟨straps, rfl⟩
  | restartTakesEffect => exact .inr (.inl rfl)
  | presenceOccupied l => exact .inr (.inr ⟨fun s => eventOccupied l (presenceTo l true s), fun _ => rfl⟩)
  | presenceReleased l => exact .inr (.inr ⟨fun s => eventReleased l (presenceTo l false s), fun _ => rfl⟩)
  | restartInput => exact .inr (.inr ⟨_, fun s => show execRestartInput s = _ from rfl⟩)
  | _ => exact .inr (.inr ⟨_, fun _ => rfl⟩)

/-- Without supply every command but POWER_ON does nothing (00_scope.md 5.6). -/
theorem exec_off {c : Instr} (on : ∀ straps, c ≠ .powerOn straps) {s : State} (off : s.powered = false) :
    exec c s = .next s := by
  obtain ⟨straps, rfl⟩ | rfl | ⟨f, effect⟩ := exec_cases c
  · exact absurd rfl (on straps)
  · exact congrArg Host.Outcome.next (if_neg (by simp [off]))
  · rw [effect, onLive_off off]

namespace KeptWhenSettled

variable {I : State → Prop}

theorem completeEarlier (k : KeptWhenSettled I) {s : State} (hs : Settled s) (h : I s) :
    Settled (completeEarlier s) ∧ I (completeEarlier s) := by
  cases started : s.clock.started with
  | true =>
    rw [completeEarlier_started started]
    exact ⟨hs, h⟩
  | false =>
    have all : (PortId.all.foldl (fun u p => frameCompletes p u) s).clock.started = false ∧
        Settled (PortId.all.foldl (fun u p => frameCompletes p u) s) ∧
        I (PortId.all.foldl (fun u p => frameCompletes p u) s) := by
      refine List.foldlRecOn (motive := fun u => u.clock.started = false ∧ Settled u ∧ I u) _ _ ⟨started, hs, h⟩ ?_
      rintro u ⟨unstarted, settled, hu⟩ p -
      obtain ⟨x, e, same⟩ := frameCompletes_unstarted unstarted p
      rw [same]
      exact ⟨unstarted, settled, k.early _ e (k.port p x u hu)⟩
    rw [Machine.completeEarlier, if_neg (by simp [started])]
    exact all.2

/-! ### The ports -/

theorem dispatch (k : KeptWhenSettled I) (p : PortId) (f : Frame) {s : State} (hs : Settled s) (h : I s) :
    I (dispatch p f s).1 := by
  unfold Machine.dispatch
  (repeat' split)
  · exact h
  · exact h
  · exact h
  · exact k.command p f.payload _ s hs h

theorem takeFrame (k : KeptWhenSettled I) (p : PortId) (f : Frame) {s : State} (hs : Settled s) (h : I s) :
    I (takeFrame p f s) := k.port p _ _ (k.dispatch p f hs h)

theorem serve (k : KeptWhenSettled I) (p : PortId) (f : Frame) {s : State} (hs : Settled s) (h : I s) : I (serve p f s) := by
  unfold Machine.serve
  dsimp only
  (repeat' split)
  · exact h
  · exact k.early s _ h
  · exact k.takeFrame p f hs h
  · exact k.port p _ s h
  · exact k.port p _ s h

theorem frameCompletes (k : KeptWhenSettled I) (p : PortId) {s : State} (hs : Settled s) (h : I s) :
    I (frameCompletes p s) := by
  unfold Machine.frameCompletes
  dsimp only
  split
  · split
    · exact k.serve p _ (hs.of_cc rfl) (k.port p _ s h)
    · exact k.port p _ s h
  all_goals exact h

theorem frameArrives (k : KeptWhenSettled I) (p : PortId) (f : Frame) (s : State) (hs : Settled s) (h : I s) :
    I (frameArrives p f s) := by
  obtain ⟨settled, he⟩ := k.completeEarlier hs h
  unfold Machine.frameArrives
  split
  · exact h
  · exact k.serve p f settled he

theorem settleReceiver (k : KeptWhenSettled I) (p : PortId) (n : Nat) {s : State} (hs : Settled s) (h : I s) :
    I (settleReceiver p n s) := by
  obtain ⟨settled, he⟩ := k.completeEarlier hs h
  unfold Machine.settleReceiver
  dsimp only
  (repeat' split)
  · exact k.frameCompletes p settled he
  · exact k.port p _ _ he
  · exact he

theorem characterEnds (k : KeptWhenSettled I) (p : PortId) (b : Byte) (good : Bool) (s : State) (hs : Settled s) (h : I s) :
    I (characterEnds p b good s) := by
  unfold Machine.characterEnds
  dsimp only
  (repeat' split)
  · exact h
  · exact k.port p _ _ (k.settleReceiver p _ hs h)
  · exact k.port p _ _ (k.settleReceiver p _ hs h)

theorem breakReceived (k : KeptWhenSettled I) (p : PortId) (s : State) (_ : Settled s) (h : I s) : I (breakReceived p s) := by
  unfold Machine.breakReceived gapExpires
  (repeat' split)
  · exact h
  · exact k.port p _ s h
  · exact h
  · exact h
  all_goals exact k.port p _ s h

theorem eventFrame (k : KeptWhenSettled I) (p : PortId) (s : State) (hs : Settled s) (h : I s) : I (eventFrame p s) :=
  whenever_keeps (fun _ => k.frameCompletes p hs h) h

theorem eventGap (k : KeptWhenSettled I) (p : PortId) (s : State) (_ : Settled s) (h : I s) : I (eventGap p s) :=
  whenever_keeps (fun _ => k.port p _ s h) h

theorem eventGapOverdue (k : KeptWhenSettled I) (p : PortId) (s : State) (_ : Settled s) (h : I s) :
    I (eventGapOverdue p s) := whenever_keeps (fun _ => k.port p _ s h) h

theorem eventResponse (k : KeptWhenSettled I) (p : PortId) (s : State) (hs : Settled s) (h : I s) : I (eventResponse p s) := by
  refine whenever_keeps (fun _ => ?_) h
  unfold responseEnds
  dsimp only
  split
  · exact k.takeFrame p _ (hs.of_cc rfl) (k.port p _ s h)
  · exact k.port p _ s h

theorem eventPulseEnd (k : KeptWhenSettled I) (p : PortId) (s : State) (_ : Settled s) (h : I s) : I (eventPulseEnd p s) :=
  whenever_keeps (fun _ => k.port p _ s h) h

theorem eventReminder (k : KeptWhenSettled I) (p : PortId) (s : State) (_ : Settled s) (h : I s) : I (eventReminder p s) :=
  whenever_keeps (fun _ => k.port p _ s h) h

/-! ### The sample tick -/

theorem decideDue (k : KeptWhenSettled I) (l : Lane) (r : Row) (n : Nat) (s : State) (hs : Settled s) (h : I s) :
    I (decideDue l r n s) := by
  induction n generalizing s with
  | zero => exact h
  | succ n ih =>
    unfold Machine.decideDue
    split
    · exact ih _ (settled_settleUrgent _) (k.urgent _ (k.event (.pairing l r _) s hs h))
    · exact h

theorem allEvents (k : KeptWhenSettled I) {e : State → State} (he : e ∈ allEvents) :
    ∀ s, Settled s → I s → I (e s) := by
  simp only [Machine.allEvents, List.mem_append, List.mem_flatMap, channelEvents, laneEvents,
    deviceEvents, portEvents, List.mem_cons, List.not_mem_nil, or_false] at he
  obtain ((((⟨c, -, channel⟩ | rfl) | ⟨l, -, lane⟩) | device) | ⟨p, -, port⟩) := he
  · obtain rfl | rfl | rfl | rfl := channel <;> exact k.event (by constructor)
  · exact k.event .second
  · obtain rfl | rfl | rfl | rfl | rfl | rfl | rfl | rfl := lane
    · exact k.decideDue l .a 9
    · exact k.decideDue l .b 9
    all_goals exact k.event (by constructor)
  · obtain rfl | rfl | rfl | rfl | rfl | rfl := device <;> exact k.event (by constructor)
  · obtain rfl | rfl | rfl | rfl | rfl := port
    · exact k.eventFrame p
    · exact k.eventGapOverdue p
    · exact k.eventResponse p
    · exact k.eventPulseEnd p
    · exact k.eventReminder p

theorem settlePass (k : KeptWhenSettled I) {s : State} (h : I s) : Settled (settlePass s) ∧ I (settlePass s) :=
  List.foldlRecOn (motive := fun u => Settled u ∧ I u) _ _ ⟨settled_settleUrgent s, k.urgent s h⟩
    fun _ hu _ he => ⟨settled_settleUrgent _, k.urgent _ (k.allEvents he _ hu.1 hu.2)⟩

theorem settleDue (k : KeptWhenSettled I) {s : State} (h : I s) : I (settleDue s) := by
  unfold Machine.settleDue
  split
  · obtain ⟨settled, hp⟩ := k.settlePass (k.settlePass h).2
    exact k.event .activation _ settled hp
  · exact h

theorem serveEarly (k : KeptWhenSettled I) {s : State} (hs : Settled s) (h : I s) : I (serveEarly s) := by
  have all : Settled (Machine.serveEarly s) ∧ I (Machine.serveEarly s) :=
    List.foldlRecOn (motive := fun u => Settled u ∧ I u) _ _ ⟨hs, k.early s [] h⟩
      fun _ hu f _ => ⟨settled_settleUrgent _, k.urgent _ (k.serve f.1 f.2 hu.1 hu.2)⟩
  exact all.2

theorem sampleTick (k : KeptWhenSettled I) (inputs : Inputs) (s : State) (hs : Settled s) (h : I s) :
    I (sampleTick inputs s) := by
  have ht := k.tick inputs _ (k.settleDue h)
  have settled : Settled (takeTick inputs (Machine.settleDue s)) := settled_settleDue hs
  unfold Machine.sampleTick
  dsimp only
  split
  · exact ht
  · exact k.serveEarly settled ht

/-! ### The commands -/

theorem onLive (k : KeptWhenSettled I) {f : State → State} (hf : ∀ s, Settled s → I s → I (f s)) {s t : State} (h : I s)
    (e : onLive f s = .next t) : I t := by
  injection e with e
  subst e
  split
  · exact hf _ (settled_settleUrgent s) (k.urgent s h)
  · exact h

/-- Every command but the two that change the supply keeps what the parts of a step keep. -/
theorem exec (k : KeptWhenSettled I) {c : Instr} (on : ∀ straps, c ≠ .powerOn straps) (off : c ≠ .powerLoss) {s t : State}
    (h : I s) (e : exec c s = .next t) : I t := by
  cases frame : portFrame c with
  | some f => exact k.onLive (k.frameArrives f.1 f.2) h (exec_portFrame frame s ▸ e)
  | none =>
    cases c with
    | powerOn straps => exact absurd rfl (on straps)
    | powerLoss => exact absurd rfl off
    | restartTakesEffect =>
      injection e with e
      subst e
      split
      · exact k.urgent s h
      · exact h
    | sampleTick inputs => exact k.onLive (k.sampleTick inputs) h e
    | presenceOccupied l =>
      refine k.onLive (f := fun s => eventOccupied l (presenceTo l true s)) (fun s hs h => ?_) h e
      exact k.event (.occupied l) _ (hs.of_cc rfl) (k.pins s _ h)
    | presenceReleased l =>
      refine k.onLive (f := fun s => eventReleased l (presenceTo l false s)) (fun s hs h => ?_) h e
      exact k.event (.released l) _ (hs.of_cc rfl) (k.pins s _ h)
    | restartInput =>
      have lowered : Machine.exec .restartInput s = execRestartInput s := rfl
      refine k.onLive (fun s hs h => ?_) h (lowered ▸ e)
      exact k.event .restartInput _ (hs.of_cc rfl) (k.pins s _ h)
    | characterReceived p b good => exact k.onLive (k.characterEnds p b good) h e
    | lineBreak p => exact k.onLive (k.breakReceived p) h e
    | interByteGapTimeout p => exact k.onLive (k.eventGap p) h e
    | frameReceived p => exact k.onLive (k.eventFrame p) h e
    | responseSent p => exact k.onLive (k.eventResponse p) h e
    | noticePulseEnd p => exact k.onLive (k.eventPulseEnd p) h e
    | reminderExpiry p => exact k.onLive (k.eventReminder p) h e
    | settlingComplete | hitEnd | maxHitDurationExceeded | holdCountReached | siteSecond | pairingDeadline | rowAExpiry
    | closeDelayExpiry | durationExpiry | triggerPulseEnd | injectionPulse | testExpiry | claimIdleExpiry
    | commitTimeoutExpiry | activation | persistComplete => exact k.onLive (k.event (by constructor)) h e
    | _ => cases frame

end KeptWhenSettled

end Sys2Proof.Machine
end

section
/-! The calibration's consistency (R146, R147, R149, R151, R154, R156): kept by each operation in turn and so by every step
(O46). -/

namespace Sys2Proof.Machine

/-! ### The invariants in one structure -/

/-- `ClaimInv` of a device with supply, part by part. -/
structure ClaimStands (x : Cc) : Prop where
  unclaimed : x.claim = none → x.edits = x.active
  waits : x.waiting = true → x.claim.isSome = true ∧ x.persist = none
  idles : x.claimExpiry.isSome = true ↔ x.claim.isSome = true ∧ x.waiting = false
  timed : x.waiting = true → x.commitExpiry.isSome = true ∨ x.activationDue = true
  rests : x.waiting = false → x.commitExpiry = none ∧ x.activationDue = false ∧ x.activationNear = false
  erased : x.persist.isSome = true → x.store.mark = false
  pends : x.restartPending = true → x.persist.isSome = true ∨ x.restartDue = true
  restarts : x.restartDue = true → x.persist = none ∧ x.activationDue = false

theorem claimInv_iff (s : State) : ClaimInv s ↔ (s.powered = true → ClaimStands s.cc) := by
  refine forall_congr' fun _ => ⟨?_, ?_⟩
  · rintro ⟨unclaimed, waits, idles, timed, rests, erased, pends, restarts⟩
    exact ⟨unclaimed, waits, idles, timed, rests, erased, pends, restarts⟩
  · rintro ⟨unclaimed, waits, idles, timed, rests, erased, pends, restarts⟩
    exact ⟨unclaimed, waits, idles, timed, rests, erased, pends, restarts⟩

/-- Claim, commit, persist and restart stand together, and a commit that waits on EMPTY contexts is about to be activated. -/
structure CalConsistent (s : State) : Prop where
  claim : ClaimStands s.cc
  commit : CommitInv s

/-! ### EMPTY contexts (R151) -/

theorem allEmpty_iff (s : State) : allEmpty s = true ↔ ∀ l, (s.context l).state = .empty := by
  simp only [allEmpty, List.all_eq_true, decide_eq_true_eq]
  exact ⟨fun h l => h l (Ix4.mem_all l), fun h l _ => h l⟩

theorem allEmpty_of_contexts {s t : State} (h : t.va.contexts = s.va.contexts) : allEmpty t = allEmpty s := by
  unfold allEmpty State.context
  rw [h]

/-- A lane that its vehicle leaves CLOSING is not EMPTY. -/
theorem allEmpty_takeReleased {s : State} {l : Lane} (h : allEmpty (takeReleased l s) = true) : allEmpty s = true := by
  cases held : (s.context l).state with
  | opened =>
    rw [takeReleased_opened held, allEmpty_iff] at h
    have := h l
    rw [State.context_withContext_self] at this
    cases this
  | empty | closing =>
    rw [takeReleased_other (by rw [held]; nofun)] at h
    exact h

/-- A vehicle that opens by presence stands in its lane's context. -/
theorem openByPresence_holds (l : Lane) (tick : Time) (stamp : Stamp) (s : State) :
    ((openByPresence l tick stamp s).context l).state ≠ .empty := by
  have opened : ((openByPresence l tick stamp s).context l).state = if s.isOccupied l then .opened else .closing := by
    rw [openByPresence, openVehicle, State.context, markVehicleOpened_va, ← State.context, State.context_withContext_self]
  rw [opened]
  split <;> nofun

/-- A lane that becomes occupied holds a vehicle. -/
theorem takeOccupied_holds (l : Lane) (s : State) : ((takeOccupied l s).context l).state ≠ .empty := by
  unfold takeOccupied
  dsimp only
  split
  · exact openByPresence_holds l _ _ _
  · simp_all
  · (repeat' split) <;> simp_all

theorem allEmpty_of_holds {s : State} {l : Lane} (h : (s.context l).state ≠ .empty) : allEmpty s = false :=
  List.all_eq_false.mpr ⟨l, Ix4.mem_all l, by simp [h]⟩

/-- A presence re-read leaves no lane EMPTY but where all were so. -/
theorem allEmpty_rereadPresence {s : State} {l : Lane} (h : allEmpty (rereadPresence l s) = true) : allEmpty s = true := by
  unfold rereadPresence at h
  (repeat' split at h)
  · rw [allEmpty_of_holds (takeOccupied_holds l s)] at h
    cases h
  · exact allEmpty_takeReleased h
  · exact h

/-- The mark of a hold leaves no lane EMPTY but where all were so. -/
theorem allEmpty_hitOverruns {s : State} {id : ChannelId} (h : allEmpty (hitOverruns id s) = true) : allEmpty s = true := by
  have held {l : Lane} {u : State} (e : allEmpty (markHeld l u) = true) : allEmpty u = true := by
    unfold markHeld at e
    split at e
    · exact e
    · rw [allEmpty_of_holds (l := l) (by rwa [State.context_withContext_self])] at e
      cases e
  unfold hitOverruns at h
  rw [allEmpty_of_contexts (congrArg Va.contexts (raiseAll_va ..))] at h
  have counted := held h
  exact counted

/-- A lane that opens leaves no lane EMPTY but where all were so. -/
theorem allEmpty_openLane {s : State} {l : Lane} (h : allEmpty (openLane l s) = true) : allEmpty s = true := by
  unfold openLane at h
  have settling := allEmpty_rereadPresence h
  rwa [allEmpty_of_contexts (s := s)] at settling
  exact foldl_keeps (·.va.contexts) _ (fun _ _ => by split <;> simp) _ _

/-! ### What one operation does to the calibration -/

namespace CalConsistent

variable {s t : State}

/-- An operation that leaves the Calibration Controller alone, and no lane EMPTY but where all were so. -/
theorem of_cc (h : CalConsistent s) (cc : t.cc = s.cc := by simp)
    (empties : allEmpty t = true → allEmpty s = true := by exact fun e => (allEmpty_of_contexts (by simp)).symm.trans e) :
    CalConsistent t := by
  refine ⟨cc ▸ h.claim, fun waiting empty => ?_⟩
  rw [cc] at waiting ⊢
  exact h.commit waiting (empties empty)

/-- An operation that leaves the Calibration Controller alone, and may leave a lane EMPTY, followed by the test of R151. -/
theorem noteEmptied (h : CalConsistent s) (settled : Settled s) (cc : t.cc = s.cc := by simp) :
    CalConsistent (noteEmptied t) := by
  have claim := h.claim
  rw [← cc] at claim
  unfold Machine.noteEmptied
  split
  · rename_i due
    simp only [Bool.and_eq_true] at due
    exact ⟨{ claim with
      timed := fun _ => .inr rfl
      rests := fun idle => absurd due.1.1 (by simp [show t.cc.waiting = false from idle])
      restarts := fun restart => absurd restart (by simp [cc, settled.2]) }, fun _ _ => .inl rfl⟩
  · rename_i quiet
    refine ⟨claim, fun waiting empty => .inr ?_⟩
    simpa [waiting, empty] using quiet

/-- With no commit waiting, what contexts are EMPTY does not matter. -/
theorem of_idle (claim : ClaimStands t.cc) (idle : t.cc.waiting = false) : CalConsistent t :=
  ⟨claim, fun waiting => absurd waiting (by simp [idle])⟩

end CalConsistent

/-! ### The Calibration Controller's own operations -/

namespace ClaimStands

variable {s : State}

/-- While no restart is about to take effect, an activation starts its persist (R152, R154). -/
theorem activate (quiet : s.cc.restartDue = false) : ClaimStands (activate s).cc := by
  rw [activate_cc]
  exact {
    unclaimed := fun _ => rfl
    waits := nofun
    idles := ⟨nofun, nofun⟩
    timed := nofun
    rests := fun _ => ⟨rfl, rfl, rfl⟩
    erased := fun _ => rfl
    pends := fun _ => .inl rfl
    restarts := fun due => absurd due (by simp [quiet]) }

theorem restartDevice (h : ClaimStands s.cc) : ClaimStands (restartDevice s).cc := by
  rw [restartDevice_cc]
  exact { h with
    unclaimed := fun _ => rfl
    waits := nofun
    idles := ⟨nofun, nofun⟩
    timed := nofun
    rests := fun _ => ⟨rfl, rfl, rfl⟩
    pends := nofun
    restarts := nofun }

/-- The claim released outside COMMIT_WAIT (R146, R147). -/
theorem revertEdits (h : ClaimStands s.cc) (idle : s.cc.waiting = false) : ClaimStands (revertEdits s).cc :=
  { h with
    unclaimed := fun _ => rfl
    waits := fun waiting => absurd waiting (by simp [Machine.revertEdits, idle])
    idles := ⟨nofun, nofun⟩ }

theorem discardEdits (h : ClaimStands s.cc) : ClaimStands (discardEdits s).cc :=
  { h with
    unclaimed := fun _ => rfl
    waits := nofun
    idles := ⟨nofun, nofun⟩
    timed := nofun
    rests := fun _ => ⟨rfl, rfl, rfl⟩
    restarts := fun due => ⟨(h.restarts due).1, rfl⟩ }

theorem acceptWrite (h : ClaimStands s.cc) (idle : s.cc.waiting = false) (p : PortId) (b : List Byte) :
    ClaimStands (acceptWrite p b s).cc :=
  { h with
    unclaimed := nofun
    waits := fun waiting => absurd (idle.symm.trans waiting) nofun
    idles := ⟨fun _ => ⟨rfl, idle⟩, fun _ => rfl⟩ }

/-- A commit is accepted of a claim, without a persist (R149). -/
theorem acceptCommit (h : ClaimStands s.cc) (claimed : s.cc.claim ≠ none) (persist : s.cc.persist = none) :
    ClaimStands (acceptCommit s).cc :=
  { h with
    waits := fun _ => ⟨Option.isSome_iff_ne_none.mpr claimed, persist⟩
    idles := ⟨nofun, nofun⟩
    timed := fun _ => .inl rfl
    rests := nofun }

theorem commitTimesOut (h : ClaimStands s.cc) (waiting : s.cc.waiting = true) (quiet : s.cc.restartDue = false) :
    ClaimStands (commitTimesOut s).cc :=
  { h with
    timed := fun _ => .inr rfl
    rests := fun idle => absurd (waiting.symm.trans idle) nofun
    restarts := fun due => absurd (quiet.symm.trans due) nofun }

theorem requestRestart (h : ClaimStands s.cc) (quiet : s.cc.activationDue = false) : ClaimStands (requestRestart s).cc := by
  unfold Machine.requestRestart
  split
  · exact { h with pends := fun _ => .inl ‹_› }
  · exact { h with
      pends := fun _ => .inr rfl
      restarts := fun _ => ⟨Option.not_isSome_iff_eq_none.mp ‹_›, quiet⟩ }

/-- A persist that ends brings on the restart that waits behind it (R154, R156). -/
theorem persistCompletes (h : ClaimStands s.cc) (quiet : s.cc.activationDue = false) (equal : Bool) :
    ClaimStands (persistCompletes equal s).cc := by
  simp only [Machine.persistCompletes, raiseAll_cc]
  exact { h with
    waits := fun waiting => ⟨(h.waits waiting).1, rfl⟩
    erased := nofun
    pends := fun pending => .inr (by simp [show s.cc.restartPending = true from pending])
    restarts := fun _ => ⟨rfl, quiet⟩ }

theorem initialCc (st : Store) : ClaimStands (initialCc st) :=
  ⟨fun _ => rfl, nofun, ⟨nofun, nofun⟩, nofun, fun _ => ⟨rfl, rfl, rfl⟩, nofun, nofun, nofun⟩

end ClaimStands

namespace CalConsistent

variable {s : State}

theorem activate (quiet : s.cc.restartDue = false) : CalConsistent (activate s) :=
  of_idle (ClaimStands.activate quiet) (by rw [activate_cc])

theorem restartDevice (h : CalConsistent s) : CalConsistent (restartDevice s) :=
  of_idle h.claim.restartDevice (by rw [restartDevice_cc])

/-- An activation and a restart are never due together, so one of them at most comes at once. -/
theorem settleUrgent (h : CalConsistent s) : CalConsistent (settleUrgent s) := by
  cases due : s.cc.activationDue with
  | true =>
    have quiet : s.cc.restartDue = false :=
      Bool.eq_false_iff.mpr fun restart => absurd (h.claim.restarts restart).2 (by simp [due])
    rw [settleUrgent_activation due quiet]
    exact activate quiet
  | false =>
    cases restart : s.cc.restartDue with
    | true =>
      rw [settleUrgent_restart due restart]
      exact h.restartDevice
    | false =>
      rw [settleUrgent_settled due restart]
      exact h

/-! ### The port commands -/

theorem requestRestart (h : CalConsistent s) (settled : Settled s) : CalConsistent (requestRestart s) := by
  refine ⟨h.claim.requestRestart settled.1, ?_⟩
  have commit := h.commit
  unfold Machine.requestRestart
  split <;> exact commit

theorem changeLane (h : CalConsistent s) (settled : Settled s) (l : Lane) (close : Bool) :
    CalConsistent (changeLane l close s) := by
  unfold Machine.changeLane
  split
  · exact h
  · exact h.noteEmptied settled
  · exact h.of_cc (empties := allEmpty_openLane)
  · exact h
  · exact h.noteEmptied settled
  · exact h.noteEmptied settled

theorem laneMode (h : CalConsistent s) (settled : Settled s) (b : List Byte) : CalConsistent (doLaneMode b s).1 := by
  unfold doLaneMode
  split
  · exact h
  · split
    · exact h
    · exact h.changeLane settled ..

theorem tableWrite (h : CalConsistent s) (p : PortId) (b : List Byte) : CalConsistent (doTableWrite p b s).1 := by
  unfold doTableWrite
  dsimp only
  (repeat' split)
  · exact h
  · exact h
  · exact h
  · exact h
  all_goals
    have idle : s.cc.waiting = false := by simpa using ‹¬ s.cc.waiting = true›
    exact of_idle (h.claim.acceptWrite idle p b) idle

/-- An accepted commit is to be activated at its tick where every context is EMPTY (R151). -/
theorem commitCommand (h : CalConsistent s) (p : PortId) : CalConsistent (doCommit p s).1 := by
  unfold doCommit invalidCommit
  (repeat' split)
  case h_2.isFalse.isFalse =>
    exact ⟨h.claim.acceptCommit ‹_› (by simpa using ‹¬ s.cc.persist.isSome = true›), fun _ empty => .inr empty⟩
  all_goals exact h

theorem discard (h : CalConsistent s) (p : PortId) : CalConsistent (doDiscard p s).1 := by
  unfold doDiscard
  (repeat' split)
  · exact h
  · exact of_idle h.claim.discardEdits rfl
  · exact h

/-- Of the port commands TABLE_WRITE, COMMIT, DISCARD and RESTART act on the Calibration Controller, and LANE_MODE on the
contexts. -/
theorem runCommand (h : CalConsistent s) (settled : Settled s) (p : PortId) (b : List Byte) (c : CommandId) :
    CalConsistent (runCommand p b s c).1 := by
  cases c with
  | tableWrite => exact h.tableWrite p b
  | commit => exact h.commitCommand p
  | discard => exact h.discard p
  | laneMode => exact h.laneMode settled b
  | restart => exact h.requestRestart settled
  | status | counters | notices => exact h
  | setClock | clearCounters => exact h.of_cc rfl id
  | ackNotices | setNotice | setFilter | setAlerts | fetch | readSeq | seek | takeAlert | tableSelect | tableRead | laneTest
  | channelResume =>
    simp only [Machine.runCommand, doAckNotices, doSetNotice, doSetFilter, doSetAlerts, doFetch, doReadSeq, doSeek,
      doTakeAlert, doTableSelect, doTableRead, doLaneTest, doChannelResume, refuse]
    (repeat' split) <;> exact h.of_cc

end CalConsistent

/-! ### The events -/

namespace CalConsistent

variable {s : State}

/-- An event that acts where its condition holds, followed by the test of R151. -/
theorem whenever_noteEmptied (h : CalConsistent s) (settled : Settled s) {f : State → State} (cc : (f s).cc = s.cc)
    {due : Bool} : CalConsistent (whenever due (fun s => Machine.noteEmptied (f s)) s) :=
  whenever_keeps (fun _ => h.noteEmptied settled cc) h

theorem persistCompletes (h : CalConsistent s) (settled : Settled s) (equal : Bool) :
    CalConsistent (persistCompletes equal s) :=
  ⟨h.claim.persistCompletes settled.1 equal, fun waiting empty => by
    have commit := h.commit
    simp only [Machine.persistCompletes, raiseAll_cc] at waiting ⊢
    exact commit waiting (by rwa [allEmpty_of_contexts (s := s)] at empty; simp)⟩

/-- The claim's idle expiry finds no commit waiting (R147). -/
theorem claimIdle (h : CalConsistent s) : CalConsistent (eventClaimIdle s) :=
  whenever_keeps (fun due => by
    have idle : s.cc.waiting = false := by
      simp only [claimIdleDue, Bool.and_eq_true, Bool.not_eq_true'] at due
      exact due.1.2
    have reverted := h.claim.revertEdits idle
    exact of_idle (by rwa [claimExpires, raiseAll_cc]) (by rw [claimExpires, raiseAll_cc]; exact idle)) h

theorem commitTimeout (h : CalConsistent s) (settled : Settled s) : CalConsistent (eventCommitTimeout s) :=
  whenever_keeps (fun due => by
    rw [commitTimeoutDue, Bool.and_eq_true] at due
    exact ⟨h.claim.commitTimesOut due.1 settled.2, fun _ _ => .inl rfl⟩) h

/-- Every event of the device's own keeps the calibration consistent; one that may leave a context EMPTY is followed by the
test of R151. -/
theorem event (h : CalConsistent s) (settled : Settled s) {e : State → State} (own : OwnEvent e) : CalConsistent (e s) := by
  cases own with
  | settling | holdEnd | second | rowA | trigger => exact whenever_keeps (fun _ => h.of_cc) h
  | overrun => exact whenever_keeps (fun _ => h.of_cc (empties := allEmpty_hitOverruns)) h
  | hitEnd => exact h.whenever_noteEmptied settled (hitEnds_cc ..)
  | occupied => exact h.whenever_noteEmptied settled (takeOccupied_cc ..)
  | closeDelay => exact h.whenever_noteEmptied settled (closeDelayExpires_cc ..)
  | duration => exact h.whenever_noteEmptied settled (durationExpires_cc ..)
  | pairing =>
    unfold eventPairing
    split
    · exact h.noteEmptied settled
    · exact h
  | testExpiry =>
    unfold eventTestExpiry
    split
    · exact h.noteEmptied settled
    · exact h
  | released => exact whenever_keeps (fun _ => h.of_cc (empties := allEmpty_takeReleased)) h
  | injection =>
    unfold eventInjection
    split <;> exact h.of_cc
  | claimIdle => exact h.claimIdle
  | commitTimeout => exact h.commitTimeout settled
  | activation => exact whenever_keeps (fun _ => activate settled.2) h
  | persist equal => exact whenever_keeps (fun _ => h.persistCompletes settled equal) h
  | persistOverdue =>
    refine whenever_keeps (fun _ => ?_) h
    have taken : CalConsistent { s with freeIndex := s.freeIndex + 1 } := h.of_cc rfl id
    exact taken.persistCompletes (settled.of_cc rfl) _
  | restartInput =>
    refine whenever_keeps (fun _ => ?_) h
    have taken : CalConsistent { s with pins := { s.pins with restartEdge := false } } := h.of_cc rfl id
    exact taken.requestRestart (settled.of_cc rfl)

end CalConsistent

theorem calConsistent_keptWhenSettled : KeptWhenSettled CalConsistent where
  early _ _ h := h.of_cc rfl id
  pins _ _ h := h.of_cc rfl id
  port _ _ _ h := h.of_cc rfl id
  tick _ _ h := h.of_cc rfl id
  urgent _ h := h.settleUrgent
  command p b c _ settled h := h.runCommand settled p b c
  event own _ settled h := h.event settled own

/-! ### The step -/

/-- A power-on starts with no claim, commit, persist or restart (R155). -/
theorem applyPower_calConsistent (straps : Tri Strap) (s : State) : CalConsistent (applyPower straps s) :=
  .of_idle (ClaimStands.initialCc _) rfl

/-- Every command keeps the two invariants; a device without supply has no claim to keep. -/
theorem exec_calibration {c : Instr} {s t : State} (claim : ClaimInv s) (commit : CommitInv s) (e : exec c s = .next t) :
    ClaimInv t ∧ CommitInv t := by
  have both {u : State} (h : CalConsistent u) : ClaimInv u ∧ CommitInv u :=
    ⟨(claimInv_iff u).mpr fun _ => h.claim, h.commit⟩
  by_cases on : ∃ straps, c = .powerOn straps
  · obtain ⟨straps, rfl⟩ := on
    injection e with e
    exact e ▸ both (applyPower_calConsistent straps _)
  have unpowered : ∀ straps, c ≠ .powerOn straps := fun straps e => on ⟨straps, e⟩
  cases powered : s.powered with
  | false =>
    rw [exec_off unpowered powered] at e
    injection e with e
    exact e ▸ ⟨claim, commit⟩
  | true =>
    have h : CalConsistent s := ⟨(claimInv_iff s).mp claim powered, commit⟩
    by_cases off : c = .powerLoss
    · subst off
      injection e with e
      rw [if_pos powered] at e
      subst e
      exact ⟨nofun, h.settleUrgent.commit⟩
    · exact both (calConsistent_keptWhenSettled.exec unpowered off h e)

/-- Settles O46. Between one settlement of what comes at once and the next, each part of a step keeps the calibration
consistent. -/
theorem calibrationStaysConsistent : Obligations.CalibrationStaysConsistent := by
  intro s t claim commit e
  unfold step at e
  split at e
  · injection e with e
    exact e ▸ ⟨claim, commit⟩
  · rename_i c rest _
    have claim' : ClaimInv { s with pending := rest } := claim
    exact exec_calibration claim' commit e

end Sys2Proof.Machine
end

section
/-! Every command's answer (R151, R155, R156; 00_scope.md 5.6): O2. -/

namespace Sys2Proof.Machine

/-! ### The queue -/

theorem runCommand_pending (p : PortId) (b : List Byte) (s : State) (c : CommandId) :
    (runCommand p b s c).1.pending = s.pending := by
  cases c with
  | status | counters | clearCounters | notices | setClock => rfl
  | restart => exact requestRestart_pending s
  | ackNotices | setNotice | setFilter | setAlerts | fetch | readSeq | seek | takeAlert | tableSelect | tableRead | tableWrite
  | commit | discard | laneMode | laneTest | channelResume =>
    simp only [runCommand, doAckNotices, doSetNotice, doSetFilter, doSetAlerts, doFetch, doReadSeq, doSeek, doTakeAlert,
      doTableSelect, doTableRead, doTableWrite, doCommit, invalidCommit, doDiscard, doLaneMode, doLaneTest, doChannelResume,
      refuse]
    (repeat' split) <;> simp

theorem OwnEvent.pending {e : State → State} (own : OwnEvent e) (s : State) : (e s).pending = s.pending := by
  cases own with
  | pairing =>
    unfold eventPairing
    split <;> simp
  | testExpiry =>
    unfold eventTestExpiry
    split <;> simp
  | injection =>
    unfold eventInjection
    split <;> rfl
  | _ => exact whenever_keeps (I := fun u => u.pending = s.pending) (fun _ => by simp) rfl

theorem pending_keptWhenSettled (q : List Instr) : KeptWhenSettled fun s => s.pending = q where
  early _ _ h := h
  pins _ _ h := h
  port _ _ _ h := h
  tick _ _ h := h
  urgent s h := (settleUrgent_pending s).trans h
  command p b c s _ h := (runCommand_pending p b s c).trans h
  event own s _ h := (own.pending s).trans h

/-- What comes at once leaves the queue alone, with supply and without. -/
theorem pending_urgent (s : State) : (if s.powered then settleUrgent s else s).pending = s.pending := by
  split
  · exact settleUrgent_pending s
  · rfl

/-- Every command leaves the queue alone. -/
theorem exec_pending {c : Instr} {s t : State} (e : exec c s = .next t) : t.pending = s.pending := by
  by_cases on : ∃ straps, c = .powerOn straps
  · obtain ⟨straps, rfl⟩ := on
    injection e with e
    exact e ▸ pending_urgent s
  · by_cases off : c = .powerLoss
    · subst off
      injection e with e
      subst e
      split
      · exact settleUrgent_pending s
      · rfl
    · exact (pending_keptWhenSettled s.pending).exec (fun straps e => on ⟨straps, e⟩) off rfl e

/-! ### What comes at once -/

theorem settleUrgent_idem (s : State) : settleUrgent (settleUrgent s) = settleUrgent s :=
  settleUrgent_settled (settled_settleUrgent s).1 (settled_settleUrgent s).2

theorem onLive_settleUrgent {s : State} (powered : s.powered = true) (f : State → State) :
    onLive f s = onLive f (settleUrgent s) := by
  rw [onLive, onLive, settleUrgent_powered, if_pos powered, if_pos powered, settleUrgent_idem]

/-- A command acts as on the state that what comes at once leaves. -/
theorem exec_settleUrgent (c : Instr) {s : State} (powered : s.powered = true) : exec c s = exec c (settleUrgent s) := by
  have urgent : (if (settleUrgent s).powered then settleUrgent (settleUrgent s) else settleUrgent s) =
      if s.powered then settleUrgent s else s := by
    rw [settleUrgent_powered, if_pos powered, if_pos powered, settleUrgent_idem]
  obtain ⟨straps, rfl⟩ | rfl | ⟨f, effect⟩ := exec_cases c
  · exact congrArg (fun u => Host.Outcome.next (applyPower straps u)) urgent.symm
  · exact congrArg Host.Outcome.next urgent.symm
  · rw [effect, effect, onLive_settleUrgent powered]

theorem exec_next (c : Instr) (s : State) : ∃ t, exec c s = .next t := by
  obtain ⟨straps, rfl⟩ | rfl | ⟨f, effect⟩ := exec_cases c
  · exact ⟨_, rfl⟩
  · exact ⟨_, rfl⟩
  · exact ⟨_, effect s⟩

/-- Settles O2: every command but POWER_ON acts through `onLive` or is what comes at once itself. -/
theorem everyCommandAnswers : Obligations.EveryCommandAnswers := by
  refine ⟨fun c s => ?_, fun s powered => ⟨fun c => exec_settleUrgent c powered, settleUrgent_settled, ?_, ?_⟩⟩
  · obtain ⟨t, answer⟩ := exec_next c s
    refine ⟨t, answer, exec_pending answer, fun on off => ?_⟩
    rw [exec_off on off] at answer
    injection answer with same
    exact same.symm
  · intro due quiet
    rw [settleUrgent_activation due quiet]
    exact exec_activation_due powered due quiet
  · exact fun _ => congrArg Host.Outcome.next (if_pos powered)

end Sys2Proof.Machine
end

section
/-! The calibration across the supply (R154, R155, R170): O4. -/

namespace Sys2Proof.Machine

theorem losePower_store (s : State) :
    (losePower s).cc.store = if s.cc.persist.isSome = true then { s.cc.store with mark := false } else s.cc.store := rfl

theorem losePower_store_idle {s : State} (idle : s.cc.persist = none) : (losePower s).cc.store = s.cc.store := by
  rw [losePower_store, idle]
  rfl

/-- A power-on has the store as the loss of the supply left it (R154). -/
theorem applyPower_cc (straps : Tri Strap) (s : State) : (applyPower straps s).cc = initialCc (losePower s).cc.store := rfl

/-- A power-on of a device that has supply is one after the loss of the supply. -/
theorem applyPower_losePower (straps : Tri Strap) (s : State) : applyPower straps (losePower s) = applyPower straps s := rfl

theorem exec_powerOn_off {s : State} (off : s.powered = false) (straps : Tri Strap) :
    exec (.powerOn straps) s = .next (applyPower straps s) :=
  congrArg (fun u => Host.Outcome.next (applyPower straps u)) (if_neg (by simp [off]))

theorem exec_powerOn_live {s : State} (live : Live s) (straps : Tri Strap) :
    exec (.powerOn straps) s = .next (applyPower straps s) :=
  congrArg (fun u => Host.Outcome.next (applyPower straps u)) ((if_pos live.1).trans (settleUrgent_live live))

/-! ### The calibration load (R155) -/

theorem holdsValidSet_iff (st : Store) : st.holdsValidSet = true ↔ st.mark = true ∧ st.checkAgrees = true := by
  simp [Store.holdsValidSet]

theorem initialCc_valid {st : Store} (h : st.holdsValidSet = true) : (initialCc st).active = st.set ∧
    (initialCc st).revision = st.revision ∧ (initialCc st).storeState = .valid := ⟨if_pos h, if_pos h, if_pos h⟩

theorem initialCc_blank {st : Store} (h : ¬ st.holdsValidSet = true) : (initialCc st).active = builtIn ∧
    (initialCc st).revision = 0 ∧ (initialCc st).storeState = .blank := ⟨if_neg h, if_neg h, if_neg h⟩

/-- A port's notices at power-on: FAULT of a BLANK store, none at a port that is DISABLED (R155, R170). -/
theorem applyPower_flags (straps : Tri Strap) (s : State) (p : PortId) : ((applyPower straps s).port p).flags =
    if (straps.get p).role = .disabled then 0
    else if (losePower s).cc.store.holdsValidSet then 0 else Notice.fault := by
  have port : (applyPower straps s).port p = initialPort (straps.get p)
      (if (losePower s).cc.store.holdsValidSet then 0 else Notice.fault) := Tri.get_of ..
  rw [port]
  rfl

/-- Settles O4. A power-on reads the store as the loss of the supply leaves it, which is without its mark where a persist was
in progress. -/
theorem calibrationAcrossPower : Obligations.CalibrationAcrossPower := by
  refine ⟨fun straps s off idle => ?on, fun s live => ⟨losePower s, onLive_live live losePower, rfl, losePower_store s,
    fun straps => ?cycle, fun busy straps => ?lost⟩⟩
  case on =>
    have store := losePower_store_idle idle
    refine ⟨applyPower straps s, exec_powerOn_off off straps, rfl, store, fun valid => ?valid, fun invalid => ?blank, rfl,
      rfl, rfl, rfl, rfl, rfl, rfl, rfl, rfl, rfl⟩
    case valid =>
      have holds := (holdsValidSet_iff _).mpr valid
      obtain ⟨active, revision, state⟩ := initialCc_valid holds
      rw [applyPower_cc, store]
      refine ⟨active, revision, state, fun p => ?_⟩
      rw [applyPower_flags, store, if_pos holds, ite_self]
    case blank =>
      have holds := mt (holdsValidSet_iff _).mp invalid
      obtain ⟨active, revision, state⟩ := initialCc_blank holds
      rw [applyPower_cc, store]
      refine ⟨active, revision, state, fun p => ?_⟩
      rw [applyPower_flags, store, if_neg holds]
  case cycle => rw [exec_powerOn_live live, exec_powerOn_off rfl, applyPower_losePower]
  case lost =>
    have erased : ¬ (losePower s).cc.store.holdsValidSet = true := by
      rw [losePower_store, if_pos busy]
      nofun
    obtain ⟨active, revision, state⟩ := initialCc_blank erased
    exact ⟨applyPower straps (losePower s), exec_powerOn_off rfl straps, state, active, revision⟩

end Sys2Proof.Machine
end

section
/-! Table access (R142 to R144, R190): O38, O39. -/

namespace Sys2Proof.Machine

/-! ### The answer of a command taken at once (R174, R175) -/

section answer
variable {p : PortId} {s t : State} {f : Frame} {c : CommandId} {r : Reply} (code : commandOf f.code = some c)
  (length : lengthFits c f.payload = true) (runs : runCommand p f.payload s c = (t, r))
include code length runs

theorem answers_open (h : Taking p s) (every : maintenanceOnly c = false) :
    onLive (frameArrives p f) s = .next (answered p f.code f.tag r t) := by
  rw [arrives_open h f code every length, runs]

theorem answers_any (h : TakingAny p s) : onLive (frameArrives p f) s = .next (answered p f.code f.tag r t) := by
  rw [arrives_any h f code length, runs]

end answer

/-! ### TABLE_SELECT (R142) -/

theorem tableOfCode_tableCode (k : TableId) : tableOfCode (tableCode k) = some k := by cases k <;> rfl

theorem tableOfCode_none {n : Nat} (h : 9 ≤ n) : tableOfCode n = none := by
  unfold tableOfCode
  split
  case h_10 => rfl
  all_goals omega

theorem stepOf_none {n : Nat} (h : 2 ≤ n) : stepOf n = none := by
  unfold stepOf
  split
  case h_3 => rfl
  all_goals omega

theorem stepOf_some {n : Nat} (h : n < 2) : stepOf n = some (if n = 0 then .none else .increment) := by
  interval_cases n <;> rfl

/-- The code of a step mode reads as the byte it was read from (R189). -/
theorem stepByte {b : Byte} (h : b.toNat < 2) :
    choiceByte (stepCode (if b.toNat = 0 then .none else .increment)) = [b] := by
  have code : stepCode (if b.toNat = 0 then .none else .increment) = b.toNat := by
    split
    · simp [stepCode, *]
    · simp only [stepCode]
      omega
  rw [code, choiceByte, BitVec.ofNat_toNat, BitVec.setWidth_eq]

section select
variable {table index mode : Byte} (p : PortId) (s : State)

theorem doTableSelect_range (h : tableOfCode table.toNat = none ∨ stepOf mode.toNat = none) :
    doTableSelect p [table, index, mode] s = (s, ⟨.range, []⟩) := by
  have table_eq : byteAt [table, index, mode] 0 = table.toNat := rfl
  have mode_eq : byteAt [table, index, mode] 2 = mode.toNat := rfl
  rw [doTableSelect, table_eq, mode_eq]
  split
  · obtain h | h := h <;> simp_all
  · rfl

variable {k : TableId} (code : tableCode k = table.toNat)
include code

theorem doTableSelect_pastEnd (h : entryCount k ≤ index.toNat) :
    doTableSelect p [table, index, mode] s = (s, ⟨.range, []⟩) := by
  have table_eq : tableOfCode (byteAt [table, index, mode] 0) = some k :=
    (congrArg tableOfCode code).symm.trans (tableOfCode_tableCode k)
  rw [doTableSelect, table_eq]
  split
  · rename_i found _
    cases found
    exact if_pos h
  · rfl

theorem doTableSelect_entry (h : index.toNat < entryCount k) (step : mode.toNat < 2) :
    doTableSelect p [table, index, mode] s =
      (s.withPort p { s.port p with pointer := ⟨k, index.toNat, if mode.toNat = 0 then .none else .increment⟩ },
        ⟨.ok, [table, index, mode]⟩) := by
  have table_eq : tableOfCode (byteAt [table, index, mode] 0) = some k :=
    (congrArg tableOfCode code).symm.trans (tableOfCode_tableCode k)
  have mode_eq : stepOf (byteAt [table, index, mode] 2) = some (if mode.toNat = 0 then .none else .increment) :=
    stepOf_some step
  have index_eq : byteAt [table, index, mode] 1 = index.toNat := rfl
  have bytes : pointerBytes ⟨k, index.toNat, if mode.toNat = 0 then .none else .increment⟩ = [table, index, mode] := by
    rw [pointerBytes, stepByte step, code]
    simp [choiceByte, bytesLE]
  simp only [doTableSelect, table_eq, mode_eq, index_eq, if_neg (Nat.not_le.mpr h), bytes]

end select

/-! ### TABLE_READ (R143) -/

theorem stepped_eq (x : Pointer) :
    x.stepped = { x with index := if x.step = StepMode.increment then x.index + 1 else x.index } := by
  obtain ⟨table, index, step⟩ := x
  cases step <;> rfl

section read
variable {p : PortId} {s : State}

theorem doTableRead_pastEnd (h : entryCount (s.port p).pointer.table ≤ (s.port p).pointer.index) :
    doTableRead p s = (s, ⟨.range, []⟩) := if_pos (decide_eq_true h)

theorem doTableRead_entry (h : (s.port p).pointer.index < entryCount (s.port p).pointer.table) :
    doTableRead p s = (stepPointer p s, ⟨.ok, choiceByte (tableCode (s.port p).pointer.table) ++
      bytesLE 1 (s.port p).pointer.index ++ boolByte (decide (s.cc.claim = some p)) ++ bytesLE 4 s.cc.revision.toNat ++
      encodeEntry (if decide (s.cc.claim = some p) then s.cc.edits else s.cc.active) (s.port p).pointer.table
        (s.port p).pointer.index⟩) := if_neg (by simpa [Pointer.pastEnd] using h)

end read

/-- Settles O38: each case of the two commands, answered at once. -/
theorem tableSelectAndRead : Obligations.TableSelectAndRead := by
  intro s p tag h x
  have select {table index mode : Byte} {t : State} {r : Reply} (runs : doTableSelect p [table, index, mode] s = (t, r)) :
      exec (.tableSelect p tag table index mode) s = .next (answered p 0x20 tag r t) :=
    answers_open (f := ⟨0x20, tag, [table, index, mode]⟩) (c := .tableSelect) rfl rfl runs h rfl
  have read {t : State} {r : Reply} (runs : doTableRead p s = (t, r)) :
      exec (.tableRead p tag) s = .next (answered p 0x21 tag r t) :=
    answers_open (f := ⟨0x21, tag, []⟩) (c := .tableRead) rfl rfl runs h rfl
  refine ⟨fun table index mode => ⟨fun unknown => ?_, fun unknown => ?_, fun k code =>
    ⟨fun past => ?_, fun fits step => ?_⟩⟩, fun past => ?_, fun fits => ?_⟩
  · exact select (doTableSelect_range p s (.inl (tableOfCode_none unknown)))
  · exact select (doTableSelect_range p s (.inr (stepOf_none unknown)))
  · exact select (doTableSelect_pastEnd p s code past)
  · exact select (doTableSelect_entry p s code fits step)
  · exact read (doTableRead_pastEnd past)
  · have entry := read (doTableRead_entry fits)
    rwa [stepPointer, stepped_eq] at entry

/-! ### TABLE_WRITE (R144) -/

section write
variable {p : PortId} {b : List Byte} {s : State}

theorem doTableWrite_pastEnd (h : entryCount (s.port p).pointer.table ≤ (s.port p).pointer.index) :
    doTableWrite p b s = (s, ⟨.range, []⟩) := if_pos (decide_eq_true h)

variable (fits : (s.port p).pointer.index < entryCount (s.port p).pointer.table)
include fits

theorem not_pastEnd : ¬ (s.port p).pointer.pastEnd = true := by simpa [Pointer.pastEnd] using fits

theorem doTableWrite_badLength (h : b.length ≠ entryLength (s.port p).pointer.table (s.port p).pointer.index) :
    doTableWrite p b s = (s, ⟨.badLength, []⟩) := (if_neg (not_pastEnd fits)).trans (if_pos h)

variable (length : b.length = entryLength (s.port p).pointer.table (s.port p).pointer.index)
include length

theorem doTableWrite_busy (waiting : s.cc.waiting = true) : doTableWrite p b s = (s, ⟨.busy, []⟩) :=
  (if_neg (not_pastEnd fits)).trans ((if_neg (not_not_intro length)).trans (if_pos waiting))

variable (idle : s.cc.waiting = false)
include idle

theorem doTableWrite_claimed (other : claimedElsewhere p s = true) : doTableWrite p b s = (s, ⟨.claimed, []⟩) :=
  (if_neg (not_pastEnd fits)).trans
    ((if_neg (not_not_intro length)).trans ((if_neg (by simp [idle])).trans (if_pos other)))

theorem doTableWrite_accepted (free : claimedElsewhere p s = false) : doTableWrite p b s =
    let x := (s.port p).pointer
    let stored := storeEntry s.cc.edits x.table x.index b
    (acceptWrite p b s, ⟨if stored.2 = [] then .ok else .clamped,
      choiceByte (tableCode x.table) ++ bytesLE 1 x.index ++ bytesLE 1 stored.2.length ++ stored.2.flatMap (bytesLE 1) ++
        encodeEntry stored.1 x.table x.index⟩) :=
  (if_neg (not_pastEnd fits)).trans
    ((if_neg (not_not_intro length)).trans ((if_neg (by simp [idle])).trans (if_neg (by simp [free]))))

end write

theorem claimedElsewhere_eq_false {p : PortId} {s : State} :
    claimedElsewhere p s = false ↔ s.cc.claim = none ∨ s.cc.claim = some p := by
  cases h : s.cc.claim <;> simp [claimedElsewhere, holdsClaim, h]

/-- Settles O39: the refusals in their order, then the write. -/
theorem tableWriteActs : Obligations.TableWriteActs := by
  intro s p tag entry h x fits length free refused stored
  have write {t : State} {r : Reply} (runs : doTableWrite p entry s = (t, r)) :
      exec (.tableWrite p tag entry) s = .next (answered p 0x22 tag r t) :=
    answers_any (f := ⟨0x22, tag, entry⟩) (c := .tableWrite) rfl rfl runs h
  refine ⟨fun past => ?_, fun fits short => ?_, fun fits length waiting => ?_, fun fits length idle other => ?_,
    fun fits length idle free => ?_⟩
  · exact write (doTableWrite_pastEnd (Nat.le_of_not_lt past))
  · exact write (doTableWrite_badLength fits short)
  · exact write (doTableWrite_busy fits length waiting)
  · exact write (doTableWrite_claimed fits length idle (eq_true_of_ne_false (mt claimedElsewhere_eq_false.mp other)))
  · have stores := write (doTableWrite_accepted fits length idle (claimedElsewhere_eq_false.mpr free))
    rw [acceptWrite, stepPointer, stepped_eq] at stores
    exact stores

end Sys2Proof.Machine
end

section
/-! DISCARD, the claim's idle expiry and the persist (R147, R148, R154, R156): O43, O45. -/

namespace Sys2Proof.Machine

theorem claimedElsewhere_of_other {p o : PortId} {s : State} (claim : s.cc.claim = some o) (other : o ≠ p) :
    claimedElsewhere p s = true := by
  simp [claimedElsewhere, holdsClaim, claim, other]

theorem doDiscard_claimed {p : PortId} {s : State} (other : claimedElsewhere p s = true) :
    doDiscard p s = (s, ⟨.claimed, []⟩) := if_pos other

theorem doDiscard_free {p : PortId} {s : State} (free : s.cc.claim = none) :
    doDiscard p s = (s, ⟨.ok, [0] ++ bytesLE 4 s.cc.revision.toNat⟩) := by
  have holds : holdsClaim p s = false := by simp [holdsClaim, free]
  rw [doDiscard, claimedElsewhere_eq_false.mpr (.inl free), holds]
  rfl

theorem doDiscard_holder {p : PortId} {s : State} (claim : s.cc.claim = some p) :
    doDiscard p s = (discardEdits s, ⟨.ok, [1] ++ bytesLE 4 s.cc.revision.toNat⟩) := by
  have holds : holdsClaim p s = true := decide_eq_true claim
  rw [doDiscard, claimedElsewhere_eq_false.mpr (.inr claim), holds]
  rfl

/-- Settles O43: DISCARD by who holds the claim, and the idle expiry as an event whose condition holds. -/
theorem discardAndClaimIdle : Obligations.DiscardAndClaimIdle := by
  refine ⟨fun s p tag h => ?discard, fun s t live claim idle expiry late => ?expiry⟩
  case discard =>
    have discard {t : State} {r : Reply} (runs : doDiscard p s = (t, r)) :
        exec (.discard p tag) s = .next (answered p 0x24 tag r t) :=
      answers_any (f := ⟨0x24, tag, []⟩) (c := .discard) rfl rfl runs h
    exact ⟨fun o claim other => discard (doDiscard_claimed (claimedElsewhere_of_other claim other)),
      fun free => discard (doDiscard_free free), fun claim => discard (doDiscard_holder claim)⟩
  case expiry =>
    have due : claimIdleDue s = true := by simp [claimIdleDue, claim, idle, expiry, late]
    refine (onLive_whenever live (b := claimIdleDue) (f := claimExpires) due).trans ?_
    rw [claimExpires, raiseAll_eq_raised]
    rfl

/-- Settles O45: a persist that has run its 200 ms ends, and brings on a restart that waits. -/
theorem persistCompletes' : Obligations.PersistCompletes := by
  intro s start live persist ran
  have due : persistRan s persistEarliest = true := by
    rw [persistRan, persist]
    exact decide_eq_true ran
  have completes (equal : Bool) : exec (.persistComplete equal) s = .next (persistCompletes equal s) :=
    onLive_whenever live (b := fun s => persistRan s persistEarliest) (f := persistCompletes equal) due
  rw [completes, completes]
  simp only [persistCompletes, raiseAll_eq_raised, live.2.2, Bool.false_or]
  exact ⟨rfl, rfl⟩

end Sys2Proof.Machine
end

section
/-! COMMIT and the validation of the pending set (R149, R150, R151): O42. -/

namespace Sys2Proof.Machine

/-! ### Validation (R150) -/

/-- A run of points has no entry out of order exactly when each lies below the next. -/
theorem firstNotAbove_eq_none {xs : List Int} {k : Nat} :
    firstNotAbove k xs = none ↔ ∀ i, i + 1 < xs.length → xs.getD i 0 < xs.getD (i + 1) 0 := by
  induction xs generalizing k with
  | nil => simp [firstNotAbove]
  | cons x ys ih =>
    cases ys with
    | nil => simp [firstNotAbove]
    | cons y rest =>
      unfold firstNotAbove
      constructor
      · intro h i inside
        split at h
        · cases i with
          | zero => assumption
          | succ i => exact ih.mp h i (Nat.lt_of_succ_lt_succ inside)
        · cases h
      · intro h
        exact (if_pos (h 0 (by simp))).trans (ih.mpr fun i inside => h (i + 1) (Nat.succ_lt_succ inside))

/-- The first entry that is not above the one before it. -/
theorem firstNotAbove_eq_some {xs : List Int} {k i : Nat} (inside : i + 1 < xs.length)
    (before : ∀ j, j < i → xs.getD j 0 < xs.getD (j + 1) 0) (fails : ¬ xs.getD i 0 < xs.getD (i + 1) 0) :
    firstNotAbove k xs = some (k + i) := by
  induction i generalizing xs k with
  | zero =>
    match xs, inside with
    | x :: y :: rest, _ => exact if_neg fails
  | succ i ih =>
    match xs, inside with
    | x :: y :: rest, inside =>
      have later := ih (k := k + 1) (Nat.lt_of_succ_lt_succ inside) (fun j hj => before (j + 1) (Nat.succ_lt_succ hj)) fails
      rw [show k + (i + 1) = k + 1 + i by omega]
      exact (if_pos (before 0 (Nat.zero_lt_succ i))).trans later

/-- The points of eight in order, each by its index. -/
theorem firstNotAbove_map_eq_none {α : Type} (f : α → Int) {d : α} (zero : f d = 0) (xs : Vector α 8) {k : Nat} :
    firstNotAbove k (xs.toList.map f) = none ↔ ∀ i, i < 7 → f (xs.toList.getD i d) < f (xs.toList.getD (i + 1) d) := by
  rw [firstNotAbove_eq_none]
  simp only [← zero, List.getD_map, List.length_map, Vector.length_toList]
  exact forall_congr' fun i => imp_congr (by omega) Iff.rfl

theorem firstNotAbove_map_eq_some {α : Type} (f : α → Int) {d : α} (zero : f d = 0) (xs : Vector α 8) {k i : Nat}
    (inside : i < 7) (before : ∀ j, j < i → f (xs.toList.getD j d) < f (xs.toList.getD (j + 1) d))
    (fails : ¬ f (xs.toList.getD i d) < f (xs.toList.getD (i + 1) d)) :
    firstNotAbove k (xs.toList.map f) = some (k + i) := by
  refine firstNotAbove_eq_some ?_ ?_ ?_
  · rw [List.length_map, Vector.length_toList]
    omega
  · simpa only [← zero, List.getD_map] using before
  · simpa only [← zero, List.getD_map] using fails

/-! The five relations, each tested where those before it hold. -/

section relations
variable {set : CalSet}

theorem validationFailure_site (h : ¬ set.site.vMin < set.site.vMax) : validationFailure set = some (.site, 0) := if_pos h

variable (site : set.site.vMin < set.site.vMax)
include site

theorem validationFailure_temp {i : Nat} (h : firstNotAbove 1 (set.temp.toList.map (·.temp)) = some i) :
    validationFailure set = some (.temp, i) := by
  simp [validationFailure, site, h]

variable (temps : firstNotAbove 1 (set.temp.toList.map (·.temp)) = none)
include temps

theorem validationFailure_speed {i : Nat}
    (h : firstNotAbove 1 (set.speed.toList.map fun p => (p.speed : Int)) = some i) :
    validationFailure set = some (.speed, i) := by
  simp [validationFailure, site, temps, h]

variable (speeds : firstNotAbove 1 (set.speed.toList.map fun p => (p.speed : Int)) = none)
include speeds

theorem validationFailure_cls {i : Nat} (h : set.classes.toList.findIdx? (fun e => decide (e.countMax < e.countMin)) = some i) :
    validationFailure set = some (.cls, i) := by
  simp only [validationFailure, site, temps, speeds, h, not_true_eq_false, if_false]

variable (classes : set.classes.toList.findIdx? (fun e => decide (e.countMax < e.countMin)) = none)
include classes

theorem validationFailure_lane : validationFailure set =
    ((transitWindows set).toList.findIdx? fun w => decide (w.dtMax < w.dtMin)).map fun i => (.lane, i) := by
  simp only [validationFailure, site, temps, speeds, classes, not_true_eq_false, if_false]
  cases (transitWindows set).toList.findIdx? fun w => decide (w.dtMax < w.dtMin) <;> rfl

end relations

theorem classes_findIdx_none {set : CalSet} :
    set.classes.toList.findIdx? (fun e => decide (e.countMax < e.countMin)) = none ↔
      ∀ e ∈ set.classes.toList, e.countMin ≤ e.countMax := by
  simp only [List.findIdx?_eq_none_iff, decide_eq_false_iff_not, Nat.not_lt]

theorem classes_findIdx_some {xs : List ClassEntry} {i : Nat} {e : ClassEntry} (place : xs[i]? = some e)
    (fails : e.countMax < e.countMin) (before : ∀ j d, j < i → xs[j]? = some d → d.countMin ≤ d.countMax) :
    xs.findIdx? (fun e => decide (e.countMax < e.countMin)) = some i := by
  obtain ⟨inside, rfl⟩ := List.getElem?_eq_some_iff.mp place
  rw [List.findIdx?_eq_some_iff_getElem]
  refine ⟨inside, decide_eq_true fails, fun j hj => ?_⟩
  rw [decide_eq_true_eq, Nat.not_lt]
  exact before j _ hj (List.getElem?_eq_getElem (hj.trans inside))

theorem windows_get (set : CalSet) (l : Lane) :
    (transitWindows set).get l = transitWindow set.site (set.lanes.get l).spacing := Quad.get_of ..

theorem windows_findIdx_none {q : Quad Window} :
    q.toList.findIdx? (fun w => decide (w.dtMax < w.dtMin)) = none ↔ ∀ l, (q.get l).dtMin ≤ (q.get l).dtMax := by
  simp only [Quad.toList, List.findIdx?_eq_none_iff, List.forall_mem_cons, decide_eq_false_iff_not, Nat.not_lt]
  constructor
  · rintro ⟨one, two, three, four, -⟩ l
    cases l <;> assumption
  · exact fun h => ⟨h .one, h .two, h .three, h .four, List.forall_mem_nil _⟩

/-- The first lane whose transit window is empty. -/
theorem windows_findIdx_some {q : Quad Window} {l : Lane} (fails : (q.get l).dtMax < (q.get l).dtMin)
    (before : ∀ m, laneNumber m < laneNumber l → (q.get m).dtMin ≤ (q.get m).dtMax) :
    q.toList.findIdx? (fun w => decide (w.dtMax < w.dtMin)) = some (laneNumber l - 1) := by
  have passes (m : Lane) (h : laneNumber m < laneNumber l) : ¬ (q.get m).dtMax < (q.get m).dtMin := Nat.not_lt.mpr (before m h)
  have one := passes .one
  have two := passes .two
  have three := passes .three
  cases l <;> simp only [Quad.toList, Quad.get, laneNumber, List.findIdx?_cons, decide_eq_true_eq] at * <;> grind

/-- A set passes exactly when its five relations hold. -/
theorem validationFailure_eq_none {set : CalSet} : validationFailure set = none ↔
    set.site.vMin < set.site.vMax ∧ firstNotAbove 1 (set.temp.toList.map (·.temp)) = none ∧
      firstNotAbove 1 (set.speed.toList.map fun p => (p.speed : Int)) = none ∧
      set.classes.toList.findIdx? (fun e => decide (e.countMax < e.countMin)) = none ∧
      (transitWindows set).toList.findIdx? (fun w => decide (w.dtMax < w.dtMin)) = none := by
  constructor
  · intro passes
    by_cases site : set.site.vMin < set.site.vMax
    · cases temps : firstNotAbove 1 (set.temp.toList.map (·.temp)) with
      | some i => rw [validationFailure_temp site temps] at passes; cases passes
      | none =>
        cases speeds : firstNotAbove 1 (set.speed.toList.map fun p => (p.speed : Int)) with
        | some i => rw [validationFailure_speed site temps speeds] at passes; cases passes
        | none =>
          cases classes : set.classes.toList.findIdx? (fun e => decide (e.countMax < e.countMin)) with
          | some i => rw [validationFailure_cls site temps speeds classes] at passes; cases passes
          | none =>
            rw [validationFailure_lane site temps speeds classes, Option.map_eq_none_iff] at passes
            exact ⟨site, rfl, rfl, rfl, passes⟩
    · rw [validationFailure_site site] at passes
      cases passes
  · rintro ⟨site, temps, speeds, classes, windows⟩
    rw [validationFailure_lane site temps speeds classes, windows, Option.map_none]

/-! ### The command (R149, R151) -/

section command
variable {p : PortId} {s : State}

theorem doCommit_claimed (other : claimedElsewhere p s = true) : doCommit p s = (s, ⟨.claimed, []⟩) := if_pos other

theorem doCommit_free (free : s.cc.claim = none) : doCommit p s = (s, ⟨.invalid, [0xFF, 0xFF]⟩) := by
  rw [doCommit, claimedElsewhere_eq_false.mpr (.inl free), if_pos free]
  rfl

variable (claim : s.cc.claim = some p)
include claim

theorem doCommit_waiting (waiting : s.cc.waiting = true) : doCommit p s = (s, ⟨.busy, []⟩) := by
  rw [doCommit, claimedElsewhere_eq_false.mpr (.inr claim), claim, waiting]
  rfl

variable (idle : s.cc.waiting = false)
include idle

theorem doCommit_invalid {t : TableId} {i : Nat} (fails : validationFailure s.cc.edits = some (t, i)) :
    doCommit p s = (s, ⟨.invalid, choiceByte (tableCode t) ++ bytesLE 1 i⟩) := by
  rw [doCommit, claimedElsewhere_eq_false.mpr (.inr claim), claim, idle, fails]
  rfl

variable (passes : validationFailure s.cc.edits = none)
include passes

theorem doCommit_busy (persist : s.cc.persist.isSome = true) : doCommit p s = (s, ⟨.busy, []⟩) := by
  rw [doCommit, claimedElsewhere_eq_false.mpr (.inr claim), claim, idle, passes, persist]
  rfl

variable (persist : s.cc.persist = none)
include persist

theorem doCommit_last (last : s.cc.revision = 0xFFFFFFFF#32) : doCommit p s = (s, ⟨.range, []⟩) := by
  rw [doCommit, claimedElsewhere_eq_false.mpr (.inr claim), claim, idle, passes, persist, last]
  rfl

theorem doCommit_accepted (revision : s.cc.revision ≠ 0xFFFFFFFF#32) :
    doCommit p s = (acceptCommit s, ⟨.accepted, []⟩) := by
  rw [doCommit, claimedElsewhere_eq_false.mpr (.inr claim), claim, idle, passes, persist]
  exact if_neg revision

end command

/-- Settles O42: the command's cases in their order, and validation relation by relation. -/
theorem commitActs : Obligations.CommitActs := by
  refine ⟨fun s p tag h => ?command, fun set => ?validation⟩
  case command =>
    have commit {t : State} {r : Reply} (runs : doCommit p s = (t, r)) :
        exec (.commit p tag) s = .next (answered p 0x23 tag r t) :=
      answers_any (f := ⟨0x23, tag, []⟩) (c := .commit) rfl rfl runs h
    exact ⟨fun o claim other => commit (doCommit_claimed (claimedElsewhere_of_other claim other)),
      fun free => commit (doCommit_free free), fun claim waiting => commit (doCommit_waiting claim waiting),
      fun claim idle => ⟨fun t i fails => commit (doCommit_invalid claim idle fails), fun passes =>
        ⟨fun persist => commit (doCommit_busy claim idle passes persist),
          fun persist last => commit (doCommit_last claim idle passes persist last),
          fun persist revision => commit (doCommit_accepted claim idle passes persist revision)⟩⟩⟩
  case validation =>
    intro temp speed window site temps speeds classes
    have temps_iff : firstNotAbove 1 (set.temp.toList.map (·.temp)) = none ↔ temps :=
      firstNotAbove_map_eq_none (·.temp) (d := ⟨0, 0⟩) rfl set.temp
    have speeds_iff : firstNotAbove 1 (set.speed.toList.map fun p => (p.speed : Int)) = none ↔ speeds :=
      (firstNotAbove_map_eq_none (fun p => (p.speed : Int)) (d := ⟨0, 0⟩) rfl set.speed).trans
        (forall₂_congr fun _ _ => Int.ofNat_lt)
    have windows_iff : (transitWindows set).toList.findIdx? (fun w => decide (w.dtMax < w.dtMin)) = none ↔
        ∀ l, (window l).dtMin ≤ (window l).dtMax := by
      simp only [windows_findIdx_none, windows_get, window]
    refine ⟨?_, validationFailure_site, fun i hs inside before fails => ?_, fun i hs ht inside before fails => ?_,
      fun i e hs ht hv place fails before => ?_, fun l hs ht hv hc fails before => ?_⟩
    · rw [validationFailure_eq_none, temps_iff, speeds_iff, classes_findIdx_none, windows_iff]
    · rw [Nat.add_comm]
      exact validationFailure_temp hs (firstNotAbove_map_eq_some (·.temp) (d := ⟨0, 0⟩) rfl set.temp inside before fails)
    · rw [Nat.add_comm]
      exact validationFailure_speed hs (temps_iff.mpr ht) (firstNotAbove_map_eq_some (fun p => (p.speed : Int))
        (d := ⟨0, 0⟩) rfl set.speed inside (fun j hj => Int.ofNat_lt.mpr (before j hj)) (mt Int.ofNat_lt.mp fails))
    · exact validationFailure_cls hs (temps_iff.mpr ht) (speeds_iff.mpr hv) (classes_findIdx_some place fails before)
    · have first := windows_findIdx_some (q := transitWindows set) (l := l) (by rwa [windows_get])
        (fun m hm => by rw [windows_get]; exact before m hm)
      rw [validationFailure_lane hs (temps_iff.mpr ht) (speeds_iff.mpr hv) (classes_findIdx_none.mpr hc), first,
        Option.map_some]

end Sys2Proof.Machine
end

section
/-! The fields of a table entry (R145, R189, R190): each kind of field stored and marked, and where a list of fields is read. -/

namespace Sys2Proof.Machine

/-! ### One field (R145) -/

theorem clampNat_eq (lo hi v : Nat) :
    clampNat lo hi v = ((FieldKind.number lo hi).stored v, (FieldKind.number lo hi).clamps v) := by
  simp only [clampNat, FieldKind.stored, FieldKind.clamps]
  split_ifs <;> simp [*]

theorem clampInt_code (lo hi : Int) (v : Nat) :
    signed16 (clampInt lo hi (ofSigned16 v)).1 = (FieldKind.signed lo hi).stored v := by
  simp only [clampInt, FieldKind.stored, ofSigned16, signed16]
  split_ifs <;> rfl

theorem clampInt_mark (lo hi : Int) (v : Nat) :
    (clampInt lo hi (ofSigned16 v)).2 = (FieldKind.signed lo hi).clamps v := by
  simp only [clampInt, FieldKind.clamps, ofSigned16]
  split_ifs <;> simp [*]

/-- A choice whose values stand in the order of their codes. -/
theorem clampChoice_code {α : Type} {values : List α} {code : α → Nat} (codes : values.map code = List.range values.length)
    (d : α) (v : Nat) : code (clampChoice values d v).1 = (FieldKind.choice values.length (code d)).stored v := by
  unfold clampChoice FieldKind.stored
  cases named : values[v]? with
  | some a =>
    obtain ⟨inside, rfl⟩ := List.getElem?_eq_some_iff.mp named
    have place : (values.map code)[v]? = (List.range values.length)[v]? := by rw [codes]
    simpa [inside] using place
  | none => exact (if_neg (Nat.not_lt.mpr (List.getElem?_eq_none_iff.mp named))).symm

theorem clampChoice_mark {α : Type} (values : List α) (d : α) (v c : Nat) :
    (clampChoice values d v).2 = (FieldKind.choice values.length c).clamps v := by
  unfold clampChoice FieldKind.clamps
  cases named : values[v]? with
  | some a => simpa using (List.getElem?_eq_some_iff.mp named).1
  | none => simpa using named

theorem clampBool_code (d : Bool) (v : Nat) :
    boolCode (clampBool d v).1 = (FieldKind.choice 2 (boolCode d)).stored v := clampChoice_code rfl d v

theorem clampBool_mark (d : Bool) (v c : Nat) : (clampBool d v).2 = (FieldKind.choice 2 c).clamps v :=
  clampChoice_mark [false, true] d v c

theorem clampOpt_code (absent lo hi v : Nat) :
    (clampOpt absent lo hi v).1.getD absent = (FieldKind.optional absent lo hi).stored v := by
  simp only [clampOpt, clampNat, FieldKind.stored]
  split_ifs <;> simp [*]

/-- An optional number is read as absent exactly where its absent coding is stored. -/
theorem clampOpt_eq {absent lo hi : Nat} (order : lo ≤ hi) (spare : hi < absent) (v : Nat) :
    (clampOpt absent lo hi v).1 = if (FieldKind.optional absent lo hi).stored v = absent then none
      else some ((FieldKind.optional absent lo hi).stored v) := by
  rw [← clampOpt_code]
  simp only [clampOpt, clampNat]
  split_ifs <;> simp_all
  omega

theorem clampOpt_mark (absent lo hi v : Nat) : (clampOpt absent lo hi v).2 = (FieldKind.optional absent lo hi).clamps v := by
  simp only [clampOpt, clampNat, FieldKind.clamps]
  split_ifs <;> simp [*]

theorem laneOfNumber_laneNumber (l : Lane) : laneOfNumber (laneNumber l) = some l := by cases l <;> rfl

theorem exists_laneNumber {n : Nat} (low : 1 ≤ n) (high : n ≤ 4) : ∃ l, n = laneNumber l := by
  interval_cases n
  exacts [⟨.one, rfl⟩, ⟨.two, rfl⟩, ⟨.three, rfl⟩, ⟨.four, rfl⟩]

theorem clampProbe_code (v : Nat) : laneNumber (clampProbe v).1 = (FieldKind.number 1 4).stored v := by
  obtain ⟨l, number⟩ : ∃ l, (FieldKind.number 1 4).stored v = laneNumber l := by
    refine exists_laneNumber ?_ ?_ <;> simp only [FieldKind.stored] <;> split_ifs <;> omega
  rw [clampProbe, clampNat_eq, number, laneOfNumber_laneNumber]
  rfl

theorem clampProbe_mark (v : Nat) : (clampProbe v).2 = (FieldKind.number 1 4).clamps v := by rw [clampProbe, clampNat_eq]

/-- A lane's alternate probe, or none. -/
theorem clampAlternate_code (v : Nat) :
    (((if v = 0xFF then (none, false) else (some (clampProbe v).1, (clampProbe v).2)) :
      Option ProbeId × Bool).1.map laneNumber).getD 0xFF = (FieldKind.optional 0xFF 1 4).stored v := by
  by_cases absent : v = 0xFF
  · simp [absent, FieldKind.stored]
  · rw [if_neg absent]
    exact (clampProbe_code v).trans (if_neg absent).symm

theorem clampAlternate_mark (v : Nat) :
    ((if v = 0xFF then (none, false) else (some (clampProbe v).1, (clampProbe v).2)) : Option ProbeId × Bool).2 =
      (FieldKind.optional 0xFF 1 4).clamps v := by
  by_cases absent : v = 0xFF
  · simp [absent, FieldKind.clamps]
  · rw [if_neg absent, clampProbe_mark]
    simp [FieldKind.clamps, absent]

theorem clampPolarity_code (v : Nat) :
    polarityCode (clampChoice [.activeHigh, .activeLow] .activeHigh v).1 = (FieldKind.choice 2 0).stored v :=
  clampChoice_code rfl _ v

theorem clampSource_code (v : Nat) :
    sourceCode (clampChoice [.probe, .mean, .fixed] .probe v).1 = (FieldKind.choice 3 0).stored v := clampChoice_code rfl _ v

theorem clampTempMode_code (v : Nat) :
    tempModeCode (clampChoice [.interp, .step] .interp v).1 = (FieldKind.choice 2 0).stored v := clampChoice_code rfl _ v

/-! ### The positions of the fields clamped (R190) -/

theorem clampedPositions_sublist (marks : List Bool) (n : Nat) :
    ((marks.zipIdx n).filterMap fun (m, i) => if m then some i else none).Sublist (List.range' n marks.length) := by
  induction marks generalizing n with
  | nil => exact .slnil
  | cons m marks ih =>
    rw [List.zipIdx_cons, List.length_cons, List.range'_succ]
    cases m
    · exact (ih (n + 1)).cons n
    · exact (ih (n + 1)).cons_cons n

theorem clampedPositions_pairwise (marks : List Bool) : (clampedPositions marks).Pairwise (· < ·) :=
  List.Pairwise.sublist (clampedPositions_sublist marks 1) (List.pairwise_lt_range' ..)

theorem mem_clampedPositions {marks : List Bool} {i : Nat} :
    i ∈ clampedPositions marks ↔ 1 ≤ i ∧ marks[i - 1]? = some true := by
  simp only [clampedPositions, List.mem_filterMap, Prod.exists, List.mem_zipIdx_iff_le_and_getElem?_sub]
  constructor
  · rintro ⟨m, j, ⟨low, place⟩, kept⟩
    cases m
    · cases kept
    · obtain rfl : j = i := by simpa using kept
      exact ⟨low, place⟩
  · rintro ⟨low, place⟩
    exact ⟨true, i, ⟨low, place⟩, rfl⟩

/-! ### A list of fields, each read at its place -/

/-- The codes stored for the fields written, each by its kind. -/
def codesOf (kinds : List FieldKind) (f : List Nat) : List Nat := kinds.zipIdx.map fun (k, i) => k.stored (f.getD i 0)

/-- The fields clamped. -/
def marksOf (kinds : List FieldKind) (f : List Nat) : List Bool := kinds.zipIdx.map fun (k, i) => k.clamps (f.getD i 0)

theorem codesOf_eq_zip {kinds : List FieldKind} {f : List Nat} (length : kinds.length = f.length) :
    codesOf kinds f = (kinds.zip f).map fun (k, v) => k.stored v := by
  refine List.ext_getElem (by simp [codesOf, length]) fun i hi _ => ?_
  have inside : i < f.length := by simpa [codesOf, length] using hi
  simp [codesOf, inside]

theorem getElem?_marksOf {kinds : List FieldKind} {f : List Nat} (length : kinds.length = f.length) (i : Nat) :
    (marksOf kinds f)[i]? = some true ↔ ∃ k v, kinds[i]? = some k ∧ f[i]? = some v ∧ k.clamps v = true := by
  by_cases inside : i < f.length
  · simp [marksOf, length, inside]
  · simp [marksOf, length, inside]

theorem length_fieldsLE (ws : List Nat) (b : List Byte) : (fieldsLE ws b).length = ws.length := by
  induction ws generalizing b with
  | nil => rfl
  | cons w ws ih => rw [fieldsLE, List.length_cons, ih, List.length_cons]

/-- An entry has a kind for each of its widths. -/
theorem length_fieldKinds (set : CalSet) (t : TableId) (index : Nat) :
    (fieldKinds set t index).length = (entryWidths t index).length := by
  cases t
  case temp => simp only [fieldKinds, entryWidths]; split <;> rfl
  all_goals rfl

/-! ### Entries read (R190) -/

section entries
variable (set : CalSet) (f : List Nat)

theorem readSite_marks (i : Nat) : (readSite f).2 = marksOf (fieldKinds set .site i) f := by
  simp only [readSite, clampNat_eq]
  rfl

theorem readSite_codes (i : Nat) (entry : set.site = (readSite f).1) :
    entryFields set .site i = codesOf (fieldKinds set .site i) f := by
  simp only [entryFields, entry, readSite, clampNat_eq]
  rfl

theorem readLane_marks (i : Nat) : (readLane f).2 = marksOf (fieldKinds set .lane i) f := by
  simp only [readLane, ↓clampAlternate_mark, clampNat_eq, clampInt_mark, clampProbe_mark, clampChoice_mark _ _ _ 0]
  rfl

theorem readLane_codes (i : Nat) (entry : set.lanes.get ((ix4OfIndex i).getD .one) = (readLane f).1) :
    entryFields set .lane i = codesOf (fieldKinds set .lane i) f := by
  simp only [entryFields, entry, readLane, ↓clampAlternate_code, clampNat_eq, clampInt_code, clampProbe_code,
    clampPolarity_code, clampSource_code]
  rfl

theorem readChannel_marks (i : Nat) : (readChannel f).2 = marksOf (fieldKinds set .channel i) f := by
  simp only [readChannel, clampNat_eq, clampBool_mark _ _ 1]
  rfl

theorem readChannel_codes (i : Nat)
    (entry : set.channels.chan ((channelOfIndex i).getD ⟨.one, .a, .right⟩) = (readChannel f).1) :
    entryFields set .channel i = codesOf (fieldKinds set .channel i) f := by
  simp only [entryFields, entry, readChannel, clampNat_eq, clampBool_code]
  rfl

theorem readProbe_marks (i : Nat) : (readProbe f).2 = marksOf (fieldKinds set .probe i) f := by
  simp only [readProbe, clampBool_mark _ _ 1]
  rfl

theorem readProbe_codes (i : Nat) (entry : set.probes.get ((ix4OfIndex i).getD .one) = (readProbe f).1) :
    entryFields set .probe i = codesOf (fieldKinds set .probe i) f := by
  simp only [entryFields, entry, readProbe, clampBool_code]
  rfl

theorem readControls_marks : (readControls f).2 = marksOf (fieldKinds set .temp 8) f := by
  simp only [readControls, clampNat_eq, clampBool_mark _ _ 0, clampChoice_mark _ _ _ 0]
  rfl

theorem readControls_codes (entry : set.control = (readControls f).1) :
    entryFields set .temp 8 = codesOf (fieldKinds set .temp 8) f := by
  simp only [entryFields, entry, if_true, readControls, clampNat_eq, clampBool_code, clampTempMode_code]
  rfl

theorem readTempPoint_marks {i : Nat} (point : i ≠ 8) : (readTempPoint f).2 = marksOf (fieldKinds set .temp i) f := by
  simp only [fieldKinds, if_neg point, readTempPoint, clampNat_eq, clampInt_mark]
  rfl

theorem readTempPoint_codes {i : Nat} (point : i ≠ 8) (entry : set.temp.toList.getD i ⟨0, 0⟩ = (readTempPoint f).1) :
    entryFields set .temp i = codesOf (fieldKinds set .temp i) f := by
  simp only [entryFields, fieldKinds, if_neg point, entry, readTempPoint, clampNat_eq, clampInt_code]
  rfl

theorem readSpeedPoint_marks (i : Nat) : (readSpeedPoint f).2 = marksOf (fieldKinds set .speed i) f := by
  simp only [readSpeedPoint, clampNat_eq]
  rfl

theorem readSpeedPoint_codes (i : Nat) (entry : set.speed.toList.getD i ⟨0, 0⟩ = (readSpeedPoint f).1) :
    entryFields set .speed i = codesOf (fieldKinds set .speed i) f := by
  simp only [entryFields, entry, readSpeedPoint, clampNat_eq]
  rfl

theorem readClass_marks (i : Nat) : (readClass f).2 = marksOf (fieldKinds set .cls i) f := by
  simp only [readClass, readRule, clampNat_eq, clampBool_mark _ _ 0, clampOpt_mark]
  rfl

theorem readProfile_marks (i : Nat) : (readProfile f).2 = marksOf (fieldKinds set .profile i) f := by
  simp only [readProfile, clampNat_eq]
  rfl

theorem readProfile_codes (i : Nat) (entry : set.profiles.toList.getD i defaultProfile = (readProfile f).1) :
    entryFields set .profile i = codesOf (fieldKinds set .profile i) f := by
  simp only [entryFields, entry, readProfile, clampNat_eq]
  rfl

theorem readPattern_marks (i : Nat) (l : Ix4) : (readPattern set.site l f).2 = marksOf (fieldKinds set .testpat i) f := by
  simp only [readPattern, clampNat_eq, clampBool_mark _ _ (if i = 0 then 1 else 0), fieldKinds]
  by_cases band : set.site.vMin < set.site.vMax
  · simp only [if_pos band]
    rfl
  · simp only [if_neg band]
    rfl

theorem readPattern_codes {i : Nat} (inside : i < 4) (entry : set.patterns.get ((ix4OfIndex i).getD .one) =
      (readPattern set.site ((ix4OfIndex i).getD .one) f).1) :
    entryFields set .testpat i = codesOf (fieldKinds set .testpat i) f := by
  have enabled : boolCode (defaultPattern ((ix4OfIndex i).getD .one)).enabled = if i = 0 then 1 else 0 := by
    interval_cases i <;> rfl
  simp only [entryFields, entry, readPattern, clampNat_eq, clampBool_code, fieldKinds, enabled]
  by_cases band : set.site.vMin < set.site.vMax
  · simp only [if_pos band]
    rfl
  · simp only [if_neg band]
    rfl

/-- A spacing rule is read as present when neither of its bounds is absent (R190). -/
theorem ruleFields_readRule (j : Nat) :
    let lo := (FieldKind.optional 0xFFFF 0 2000).stored (f.getD (4 + 2 * j) 0)
    let hi := (FieldKind.optional 0xFFFF 0 2000).stored (f.getD (5 + 2 * j) 0)
    ruleFields (readRule f j).1 = if lo = 0xFFFF ∨ hi = 0xFFFF then [0xFFFF, 0xFFFF] else [lo, hi] := by
  simp only [readRule, clampOpt_eq (absent := 0xFFFF) (lo := 0) (hi := 2000) (by decide) (by decide)]
  generalize (FieldKind.optional 0xFFFF 0 2000).stored (f.getD (4 + 2 * j) 0) = lo
  generalize (FieldKind.optional 0xFFFF 0 2000).stored (f.getD (5 + 2 * j) 0) = hi
  by_cases low : lo = 0xFFFF
  · simp [low, ruleFields]
  · by_cases high : hi = 0xFFFF
    · simp [low, high, ruleFields]
    · simp [low, high, ruleFields]

theorem flatMap_rules (a b c d e g h k : Option (Nat × Nat)) : (#v[a, b, c, d, e, g, h, k]).toList.flatMap ruleFields =
    ruleFields a ++ (ruleFields b ++ (ruleFields c ++ (ruleFields d ++ (ruleFields e ++ (ruleFields g ++ (ruleFields h ++
      (ruleFields k ++ []))))))) := rfl

theorem readClass_codes (i : Nat) (entry : set.classes.toList.getD i defaultClass = (readClass f).1) :
    entryFields set .cls i = (codesOf (fieldKinds set .cls i) f).take 4 ++
      joinBounds 8 ((codesOf (fieldKinds set .cls i) f).drop 4) := by
  simp only [entryFields, entry, readClass, flatMap_rules, ruleFields_readRule, clampNat_eq, clampBool_code, clampOpt_code,
    List.append_assoc, List.nil_append]
  rfl

end entries

end Sys2Proof.Machine
end

section
/-! What a TABLE_WRITE stores (R145, R190): O40. -/

namespace Sys2Proof.Machine

/-! ### The entry written -/

theorem getD_setIfInBounds {α : Type} {n i : Nat} (v : Vector α n) (inside : i < n) (x d : α) (j : Nat) :
    (v.setIfInBounds i x).toList.getD j d = if j = i then x else v.toList.getD j d := by
  by_cases same : j = i
  · subst same
    simp [inside]
  · simp [same, Ne.symm same]

section stored
variable (set : CalSet) (t : TableId) (index : Nat) (entry : List Byte)

/-- A TABLE_WRITE carries a field for each kind of its entry. -/
theorem length_written : (fieldKinds set t index).length = (fieldsLE (entryWidths t index) entry).length := by
  rw [length_fieldKinds, length_fieldsLE]

theorem storeEntry_controls : storeEntry set .temp 8 entry =
    let r := readControls (fieldsLE (entryWidths .temp 8) entry)
    ({ set with control := r.1 }, clampedPositions r.2) := rfl

theorem storeEntry_tempPoint {index : Nat} (point : index ≠ 8) : storeEntry set .temp index entry =
    let r := readTempPoint (fieldsLE (entryWidths .temp index) entry)
    ({ set with temp := set.temp.setIfInBounds index r.1 }, clampedPositions r.2) := if_neg point

theorem storeEntry_positions : (storeEntry set t index entry).2 =
    clampedPositions (marksOf (fieldKinds set t index) (fieldsLE (entryWidths t index) entry)) := by
  cases t with
  | site => exact congrArg clampedPositions (readSite_marks ..)
  | lane => exact congrArg clampedPositions (readLane_marks ..)
  | channel => exact congrArg clampedPositions (readChannel_marks ..)
  | probe => exact congrArg clampedPositions (readProbe_marks ..)
  | temp =>
    by_cases controls : index = 8
    · subst controls
      exact congrArg clampedPositions (readControls_marks ..)
    · rw [storeEntry_tempPoint _ _ controls]
      exact congrArg clampedPositions (readTempPoint_marks _ _ controls)
  | speed => exact congrArg clampedPositions (readSpeedPoint_marks ..)
  | cls => exact congrArg clampedPositions (readClass_marks ..)
  | profile => exact congrArg clampedPositions (readProfile_marks ..)
  | testpat => exact congrArg clampedPositions (readPattern_marks ..)

theorem storedFields_eq_codesOf (plain : t ≠ .cls) (f : List Nat) (length : (fieldKinds set t index).length = f.length) :
    storedFields set t index f = codesOf (fieldKinds set t index) f := by
  rw [codesOf_eq_zip length]
  unfold storedFields
  split
  · exact absurd rfl plain
  · rfl

theorem storedFields_cls (f : List Nat) (length : (fieldKinds set .cls index).length = f.length) :
    storedFields set .cls index f = (codesOf (fieldKinds set .cls index) f).take 4 ++
      joinBounds 8 ((codesOf (fieldKinds set .cls index) f).drop 4) := by
  rw [codesOf_eq_zip length]
  rfl

theorem storeEntry_codes (fits : index < entryCount t) : entryFields (storeEntry set t index entry).1 t index =
    storedFields set t index (fieldsLE (entryWidths t index) entry) := by
  have length := length_written set t index entry
  by_cases cls : t = .cls
  · subst cls
    rw [storedFields_cls _ _ _ length]
    exact readClass_codes _ _ index ((getD_setIfInBounds _ fits _ _ _).trans (if_pos rfl))
  rw [storedFields_eq_codesOf _ _ _ cls _ length]
  cases t with
  | cls => exact absurd rfl cls
  | site => exact readSite_codes _ _ index rfl
  | lane => exact readLane_codes _ _ index (Quad.get_set_self ..)
  | channel => exact readChannel_codes _ _ index (Quad.chan_setChan_self ..)
  | probe => exact readProbe_codes _ _ index (Quad.get_set_self ..)
  | temp =>
    by_cases controls : index = 8
    · subst controls
      exact readControls_codes _ _ rfl
    · have point : index < 8 := by
        simp only [entryCount] at fits
        omega
      rw [storeEntry_tempPoint _ _ controls]
      exact readTempPoint_codes _ _ controls ((getD_setIfInBounds _ point _ _ _).trans (if_pos rfl))
  | speed => exact readSpeedPoint_codes _ _ index ((getD_setIfInBounds _ fits _ _ _).trans (if_pos rfl))
  | profile => exact readProfile_codes _ _ index ((getD_setIfInBounds _ fits _ _ _).trans (if_pos rfl))
  | testpat => exact readPattern_codes _ _ fits (Quad.get_set_self ..)

/-! ### The other entries -/

theorem storeEntry_otherTable {u : TableId} (other : u ≠ t) (j : Nat) :
    entryFields (storeEntry set t index entry).1 u j = entryFields set u j := by
  cases t with
  | temp =>
    by_cases controls : index = 8
    · subst controls
      cases u <;> first | exact absurd rfl other | rfl
    · rw [storeEntry_tempPoint _ _ controls]
      cases u <;> first | exact absurd rfl other | rfl
  | _ => cases u <;> first | exact absurd rfl other | rfl

variable {index} {j : Nat} (differ : j ≠ index)
include differ

theorem ix4OfIndex_ne (hj : j < 4) (hi : index < 4) : (ix4OfIndex j).getD .one ≠ (ix4OfIndex index).getD .one := by
  have number {n : Nat} (h : n < 4) : laneNumber ((ix4OfIndex n).getD .one) = n + 1 := by interval_cases n <;> rfl
  intro same
  have numbers := congrArg laneNumber same
  rw [number hj, number hi] at numbers
  omega

theorem channelOfIndex_ne (hj : j < 16) (hi : index < 16) :
    (channelOfIndex j).getD ⟨.one, .a, .right⟩ ≠ (channelOfIndex index).getD ⟨.one, .a, .right⟩ := by
  have number {n : Nat} (h : n < 16) : channelIndex ((channelOfIndex n).getD ⟨.one, .a, .right⟩) = n := by
    interval_cases n <;> rfl
  intro same
  have numbers := congrArg channelIndex same
  rw [number hj, number hi] at numbers
  exact differ numbers

theorem storeEntry_otherEntry (fits : index < entryCount t) (inside : j < entryCount t) :
    entryFields (storeEntry set t index entry).1 t j = entryFields set t j := by
  cases t with
  | site =>
    simp only [entryCount] at fits inside
    omega
  | lane => simp only [entryFields, storeEntry, Quad.get_set_ne _ _ (ix4OfIndex_ne differ inside fits)]
  | channel => simp only [entryFields, storeEntry, Quad.chan_setChan, if_neg (channelOfIndex_ne differ inside fits)]
  | probe => simp only [entryFields, storeEntry, Quad.get_set_ne _ _ (ix4OfIndex_ne differ inside fits)]
  | temp =>
    by_cases controls : index = 8
    · subst controls
      simp only [storeEntry_controls, entryFields, if_neg differ]
    · have point : index < 8 := by
        simp only [entryCount] at fits
        omega
      simp only [storeEntry_tempPoint _ _ controls, entryFields, getD_setIfInBounds _ point, if_neg differ]
  | speed => simp only [entryFields, storeEntry, getD_setIfInBounds set.speed fits, if_neg differ]
  | cls => simp only [entryFields, storeEntry, getD_setIfInBounds set.classes fits, if_neg differ]
  | profile => simp only [entryFields, storeEntry, getD_setIfInBounds set.profiles fits, if_neg differ]
  | testpat => simp only [entryFields, storeEntry, Quad.get_set_ne _ _ (ix4OfIndex_ne differ inside fits)]

end stored

/-- Settles O40: each field by its kind, the positions by the marks, and the entries not written. -/
theorem writtenFieldsAreClamped : Obligations.WrittenFieldsAreClamped := by
  intro set t index entry fits _ written kinds r
  have length : kinds.length = written.length := length_written set t index entry
  have positions : r.2 = clampedPositions (marksOf kinds written) := storeEntry_positions set t index entry
  refine ⟨length, storeEntry_codes set t index entry fits, ?_, fun i => ?_, fun u j inside other => ?_⟩
  · rw [positions]
    exact clampedPositions_pairwise _
  · rw [positions, mem_clampedPositions, getElem?_marksOf length]
  · by_cases same : u = t
    · subst same
      exact storeEntry_otherEntry set u entry (fun e => other (e ▸ rfl)) fits inside
    · exact storeEntry_otherTable set t index entry same j

end Sys2Proof.Machine
end

section
/-! A table entry coded and written back (R145, R189, R190): O41. -/

namespace Sys2Proof.Machine

/-! ### One field within its range -/

theorem clampNat_within {lo hi v : Nat} (h : lo ≤ v ∧ v ≤ hi) : clampNat lo hi v = (v, false) := by
  unfold clampNat
  rw [if_neg (Nat.not_lt.mpr h.1), if_neg (Nat.not_lt.mpr h.2)]

/-- A signed number in 16 bits reads back from its code. -/
theorem ofSigned16_signed16 {x : Int} (low : -32768 ≤ x) (high : x < 32768) : ofSigned16 (signed16 x) = x := by
  unfold ofSigned16 signed16
  split <;> omega

theorem clampInt_within {lo hi x : Int} (low : lo ≤ x) (high : x ≤ hi) : clampInt lo hi x = (x, false) := by
  unfold clampInt
  rw [if_neg (not_lt.mpr low), if_neg (not_lt.mpr high)]

theorem clampBool_boolCode (d b : Bool) : clampBool d (boolCode b) = (b, false) := by cases b <;> rfl

theorem clampChoice_polarity (p : Polarity) :
    clampChoice [.activeHigh, .activeLow] .activeHigh (polarityCode p) = (p, false) := by cases p <;> rfl

theorem clampChoice_source (k : SourceKind) : clampChoice [.probe, .mean, .fixed] .probe (sourceCode k) = (k, false) := by
  cases k <;> rfl

theorem clampChoice_tempMode (m : TempMode) : clampChoice [.interp, .step] .interp (tempModeCode m) = (m, false) := by
  cases m <;> rfl

theorem clampProbe_laneNumber (l : Lane) : clampProbe (laneNumber l) = (l, false) := by cases l <;> rfl

theorem clampOpt_within {absent lo hi : Nat} {x : Option Nat} (h : ∀ v, x = some v → lo ≤ v ∧ v ≤ hi)
    (spare : hi < absent) :
    clampOpt absent lo hi (x.getD absent) = (x, false) := by
  cases x with
  | none => exact if_pos rfl
  | some v =>
    have range := h v rfl
    rw [clampOpt, Option.getD_some, if_neg (by omega), clampNat_within range]
    rfl

theorem clampInt_temp {x : Int} (low : -640 ≤ x) (high : x ≤ 1360) :
    clampInt (-640) 1360 (ofSigned16 (signed16 x)) = (x, false) := by
  rw [ofSigned16_signed16 (by omega) (by omega), clampInt_within low high]

theorem clampAlternate_laneNumber (x : Option ProbeId) :
    ((if (x.map laneNumber).getD 0xFF = 0xFF then (none, false) else (some (clampProbe ((x.map laneNumber).getD 0xFF)).1,
      (clampProbe ((x.map laneNumber).getD 0xFF)).2)) : Option ProbeId × Bool) = (x, false) := by
  rcases x with _ | l
  · rfl
  · cases l <;> rfl

/-- The bounds of a spacing rule, each absent where the rule is. -/
theorem ruleFields_eq (r : Option (Nat × Nat)) :
    ruleFields r = [(r.map (·.1)).getD 0xFFFF, (r.map (·.2)).getD 0xFFFF] := by
  cases r <;> rfl

theorem readRule_bounds {f : List Nat} {j : Nat} {r : Option (Nat × Nat)}
    (lo : f.getD (4 + 2 * j) 0 = (r.map (·.1)).getD 0xFFFF) (hi : f.getD (5 + 2 * j) 0 = (r.map (·.2)).getD 0xFFFF)
    (range : ∀ x, r = some x → (0 ≤ x.1 ∧ x.1 ≤ 2000) ∧ 0 ≤ x.2 ∧ x.2 ≤ 2000) :
    readRule f j = (r, [false, false]) := by
  have low : clampOpt 0xFFFF 0 2000 ((r.map (·.1)).getD 0xFFFF) = (r.map (·.1), false) := by
    refine clampOpt_within (fun v hv => ?_) (by decide)
    obtain ⟨x, rfl, rfl⟩ := Option.map_eq_some_iff.mp hv
    exact (range x rfl).1
  have high : clampOpt 0xFFFF 0 2000 ((r.map (·.2)).getD 0xFFFF) = (r.map (·.2), false) := by
    refine clampOpt_within (fun v hv => ?_) (by decide)
    obtain ⟨x, rfl, rfl⟩ := Option.map_eq_some_iff.mp hv
    exact (range x rfl).2
  rw [readRule, lo, hi, low, high]
  cases r <;> rfl

/-! ### Entries within their ranges -/

section entries
variable {set : CalSet}

theorem readSite_fields {i : Nat} (h : EntryInRange set .site i) :
    readSite (entryFields set .site i) = (set.site, List.replicate 14 false) := by
  obtain ⟨h0, h1, h2, h3, h4, h5, h6, h7, h8, h9, h10, h11, h12, h13⟩ := h
  simp [readSite, entryFields, clampNat_within, *]

theorem readLane_fields {i : Nat} (h : EntryInRange set .lane i) :
    readLane (entryFields set .lane i) = (set.lanes.get ((ix4OfIndex i).getD .one), List.replicate 8 false) := by
  obtain ⟨spacing, low, high⟩ := h
  simp [readLane, entryFields, clampNat_within spacing, clampInt_temp low high, clampChoice_polarity, clampChoice_source,
    clampProbe_laneNumber, clampAlternate_laneNumber]

theorem readChannel_fields {i : Nat} (h : EntryInRange set .channel i) : readChannel (entryFields set .channel i) =
    (set.channels.chan ((channelOfIndex i).getD ⟨.one, .a, .right⟩), List.replicate 4 false) := by
  obtain ⟨gain, coarse, fine⟩ := h
  simp [readChannel, entryFields, clampNat_within, clampBool_boolCode, *]

theorem readProbe_fields (i : Nat) : readProbe (entryFields set .probe i) =
    (set.probes.get ((ix4OfIndex i).getD .one), List.replicate 1 false) := by
  simp [readProbe, entryFields, clampBool_boolCode]

theorem readControls_fields (h : EntryInRange set .temp 8) :
    readControls (entryFields set .temp 8) = (set.control, List.replicate 5 false) := by
  obtain ⟨hysteresis, rate⟩ := h
  simp [readControls, entryFields, clampNat_within, clampBool_boolCode, clampChoice_tempMode, *]

theorem readTempPoint_fields {i : Nat} (point : i ≠ 8) (h : EntryInRange set .temp i) :
    readTempPoint (entryFields set .temp i) = (set.temp.toList.getD i ⟨0, 0⟩, List.replicate 2 false) := by
  simp only [EntryInRange, if_neg point] at h
  obtain ⟨low, high, factor⟩ := h
  simp only [entryFields, if_neg point]
  generalize set.temp.toList.getD i ⟨0, 0⟩ = e at low high factor ⊢
  simp [readTempPoint, clampNat_within factor, clampInt_temp low high]

theorem readSpeedPoint_fields {i : Nat} (h : EntryInRange set .speed i) :
    readSpeedPoint (entryFields set .speed i) = (set.speed.toList.getD i ⟨0, 0⟩, List.replicate 2 false) := by
  obtain ⟨speed, factor⟩ := h
  simp only [entryFields]
  generalize set.speed.toList.getD i ⟨0, 0⟩ = e at speed factor ⊢
  simp [readSpeedPoint, clampNat_within speed, clampNat_within factor]

theorem readProfile_fields {i : Nat} (h : EntryInRange set .profile i) :
    readProfile (entryFields set .profile i) = (set.profiles.toList.getD i defaultProfile, List.replicate 4 false) := by
  obtain ⟨single, tandem, tridem, gross⟩ := h
  simp only [entryFields]
  generalize set.profiles.toList.getD i defaultProfile = e at single tandem tridem gross ⊢
  simp [readProfile, clampNat_within, *]

theorem vector_eight {α : Type} (v : Vector α 8) : ∃ a b c d e f g h, v = #v[a, b, c, d, e, f, g, h] := by
  obtain ⟨⟨l⟩, size⟩ := v
  match l, size with
  | [a, b, c, d, e, f, g, h], _ => exact ⟨a, b, c, d, e, f, g, h, rfl⟩

theorem vector_seven {α : Type} (v : Vector α 7) : ∃ a b c d e f g, v = #v[a, b, c, d, e, f, g] := by
  obtain ⟨⟨l⟩, size⟩ := v
  match l, size with
  | [a, b, c, d, e, f, g], _ => exact ⟨a, b, c, d, e, f, g, rfl⟩

/-- A CLASS entry read from its fields, rule by rule. -/
theorem readClass_of {f : List Nat} {e : ClassEntry} (enabled : f.getD 0 0 = boolCode e.enabled)
    (code : clampNat 1 31 (f.getD 1 0) = (e.code, false)) (low : clampNat 1 16 (f.getD 2 0) = (e.countMin, false))
    (high : clampNat 1 16 (f.getD 3 0) = (e.countMax, false))
    (rule : ∀ j (h : j < 8), readRule f j = (e.rules[j], [false, false]))
    (grossMin : clampOpt 0xFFFFFFFF 0 1048575 (f.getD 20 0) = (e.grossMin, false))
    (grossMax : clampOpt 0xFFFFFFFF 0 1048575 (f.getD 21 0) = (e.grossMax, false))
    (profile : clampNat 0 15 (f.getD 22 0) = (e.profile, false)) : readClass f = (e, List.replicate 23 false) := by
  obtain ⟨_, _, _, _, rules, _, _, _⟩ := e
  obtain ⟨r0, r1, r2, r3, r4, r5, r6, r7, rfl⟩ := vector_eight rules
  have marks : (List.range 8).flatMap (fun j => (readRule f j).2) = List.replicate 16 false := by
    simp [List.range, List.range.loop, rule]
  simp only [readClass, enabled, clampBool_boolCode, code, low, high, grossMin, grossMax, profile, marks]
  simp [rule]

theorem readClass_fields {i : Nat} (h : EntryInRange set .cls i) :
    readClass (entryFields set .cls i) = (set.classes.toList.getD i defaultClass, List.replicate 23 false) := by
  obtain ⟨code, low, high, rules, grossMin, grossMax, profile⟩ := h
  simp only [entryFields]
  generalize set.classes.toList.getD i defaultClass = e at code low high rules grossMin grossMax profile ⊢
  have range (j : Nat) (h : j < 8) (x : Nat × Nat) (hx : e.rules[j] = some x) :
      (0 ≤ x.1 ∧ x.1 ≤ 2000) ∧ 0 ≤ x.2 ∧ x.2 ≤ 2000 := rules x (by simp [← hx])
  obtain ⟨enabled, number, countMin, countMax, spacingRules, minimum, maximum, limits⟩ := e
  obtain ⟨r0, r1, r2, r3, r4, r5, r6, r7, rfl⟩ := vector_eight spacingRules
  simp only [flatMap_rules, ruleFields_eq]
  refine readClass_of rfl (clampNat_within code) (clampNat_within low) (clampNat_within high)
    (fun j hj => readRule_bounds ?_ ?_ (range j hj))
    (clampOpt_within (fun v hv => ⟨Nat.zero_le v, grossMin v hv⟩) (by decide))
    (clampOpt_within (fun v hv => ⟨Nat.zero_le v, grossMax v hv⟩) (by decide)) (clampNat_within profile)
  all_goals interval_cases j <;> rfl

/-- A TESTPAT entry read from its fields. -/
theorem readPattern_of {site : SiteEntry} {i : Ix4} {f : List Nat} {e : TestPattern}
    (enabled : f.getD 0 0 = boolCode e.enabled) (count : clampNat 2 8 (f.getD 1 0) = (e.axleCount, false))
    (distance : ∀ j (h : j < 7), clampNat 100 2000 (f.getD (2 + j) 0) = (e.spacings[j], false))
    (speed : (if site.vMin < site.vMax then clampNat site.vMin site.vMax (f.getD 9 0)
      else clampNat 1000 60000 (f.getD 9 0)) = (e.speed, false))
    (amplitude : clampNat 64 1024 (f.getD 10 0) = (e.amplitude, false)) :
    readPattern site i f = (e, List.replicate 11 false) := by
  obtain ⟨_, _, distances, _, _⟩ := e
  obtain ⟨a, b, c, d, e, g, h, rfl⟩ := vector_seven distances
  have marks : (List.range 7).map (fun j => (clampNat 100 2000 (f.getD (2 + j) 0)).2) = List.replicate 7 false := by
    simp only [List.range, List.range.loop, List.map_cons, List.map_nil, distance, Nat.reduceLT]
    rfl
  simp only [readPattern, enabled, clampBool_boolCode, count, speed, amplitude, marks, distance, Nat.reduceLT]
  rfl

theorem readPattern_fields {i : Nat} (h : EntryInRange set .testpat i) :
    readPattern set.site ((ix4OfIndex i).getD .one) (entryFields set .testpat i) =
      (set.patterns.get ((ix4OfIndex i).getD .one), List.replicate 11 false) := by
  obtain ⟨count, spacings, speed, amplitude⟩ := h
  simp only [entryFields]
  generalize set.patterns.get ((ix4OfIndex i).getD .one) = e at count spacings speed amplitude ⊢
  have distance (j : Nat) (h : j < 7) : 100 ≤ e.spacings[j] ∧ e.spacings[j] ≤ 2000 := spacings _ (by simp)
  have limited : (if set.site.vMin < set.site.vMax then clampNat set.site.vMin set.site.vMax e.speed
      else clampNat 1000 60000 e.speed) = (e.speed, false) := by
    split at speed
    · exact (if_pos ‹_›).trans (clampNat_within speed.1)
    · exact (if_neg ‹_›).trans (clampNat_within speed)
  obtain ⟨enabled, axles, distances, velocity, height⟩ := e
  obtain ⟨a, b, c, d, e, f, g, rfl⟩ := vector_seven distances
  refine readPattern_of rfl (clampNat_within count) (fun j hj => ?_) limited (clampNat_within amplitude)
  rw [← clampNat_within (distance j hj)]
  interval_cases j <;> rfl

/-! ### The coding of an entry -/

/-- Fields that fit their widths read back from their bytes. -/
theorem fieldsLE_layout {fs : List Field} (fit : Fit fs) : fieldsLE (fs.map (·.1)) (layout fs) = fs.map (·.2) := by
  induction fs with
  | nil => rfl
  | cons f fs ih =>
    obtain ⟨first, rest⟩ := fit_cons.mp fit
    rw [List.map_cons, List.map_cons, layout_cons, fieldsLE, List.take_left' (length_bytesLE ..),
      List.drop_left' (length_bytesLE ..), numberLE_bytesLE first, ih rest]

theorem length_layout (fs : List Field) : (layout fs).length = (fs.map (·.1)).sum := by
  induction fs with
  | nil => rfl
  | cons f fs ih => rw [layout_cons, List.length_append, length_bytesLE, ih, List.map_cons, List.sum_cons]

theorem length_ruleFields (r : Option (Nat × Nat)) : (ruleFields r).length = 2 := by rw [ruleFields_eq]; rfl

/-- An entry's fields have the number of its widths. -/
theorem length_entryFields (set : CalSet) (t : TableId) (i : Nat) :
    (entryFields set t i).length = (entryWidths t i).length := by
  cases t
  case temp =>
    simp only [entryFields, entryWidths]
    split <;> rfl
  case cls =>
    simp only [entryFields, entryWidths, List.length_append, List.length_flatMap, length_ruleFields]
    simp
  case testpat => simp [entryFields, entryWidths]
  all_goals rfl

theorem boolCode_lt (b : Bool) : boolCode b < 256 := by cases b <;> decide
theorem polarityCode_lt (p : Polarity) : polarityCode p < 256 := by cases p <;> decide
theorem sourceCode_lt (k : SourceKind) : sourceCode k < 256 := by cases k <;> decide
theorem tempModeCode_lt (m : TempMode) : tempModeCode m < 256 := by cases m <;> decide
theorem laneNumber_lt (l : Lane) : laneNumber l < 256 := by cases l <;> decide

theorem alternate_lt (x : Option ProbeId) : (x.map laneNumber).getD 0xFF < 256 := by
  rcases x with _ | l
  · decide
  · exact laneNumber_lt l

theorem getD_lt {x : Option Nat} {absent hi n : Nat} (h : ∀ v, x = some v → v ≤ hi) (spare : hi < absent)
    (fits : absent < n) :
    x.getD absent < n := by
  cases x with
  | none => exact fits
  | some v =>
    have := h v rfl
    rw [Option.getD_some]
    omega

theorem fit_zip_nil (ns : List Nat) : Fit ([].zip ns) := fit_nil

theorem fit_zip_cons {w n : Nat} {ws ns : List Nat} : Fit ((w :: ws).zip (n :: ns)) ↔ n < 256 ^ w ∧ Fit (ws.zip ns) :=
  fit_cons

/-- A run of fields of one width. -/
theorem fit_zip_replicate {k w : Nat} {ns : List Nat} (h : ∀ n ∈ ns, n < 256 ^ w) : Fit ((List.replicate k w).zip ns) := by
  rintro ⟨v, n⟩ mem
  obtain ⟨width, number⟩ := List.of_mem_zip mem
  rw [List.eq_of_mem_replicate width]
  exact h n number

theorem fit_zip_append {ws ns vs ms : List Nat} (length : ws.length = ns.length) (first : Fit (ws.zip ns))
    (second : Fit (vs.zip ms)) : Fit ((ws ++ vs).zip (ns ++ ms)) := by
  rw [List.zip_append length]
  exact fit_append first second

/-- The bounds of a rule fit their two bytes, and so does the absent coding. -/
theorem ruleFields_lt {r : Option (Nat × Nat)} (h : ∀ x, r = some x → x.1 ≤ 2000 ∧ x.2 ≤ 2000) {n : Nat}
    (mem : n ∈ ruleFields r) : n < 65536 := by
  rcases r with _ | x
  · simp_all [ruleFields]
  · obtain ⟨low, high⟩ := h x rfl
    obtain rfl | rfl : n = x.1 ∨ n = x.2 := by simpa [ruleFields] using mem
    · omega
    · omega

theorem entry_fits {t : TableId} {i : Nat} (h : EntryInRange set t i) : Fit ((entryWidths t i).zip (entryFields set t i)) := by
  cases t with
  | site =>
    obtain ⟨h0, h1, h2, h3, h4, h5, h6, h7, h8, h9, h10, h11, h12, h13⟩ := h
    simp only [entryWidths, entryFields, fit_zip_cons, fit_zip_nil, Nat.reducePow, and_true]
    omega
  | lane =>
    obtain ⟨spacing, low, high⟩ := h
    simp only [entryWidths, entryFields, fit_zip_cons, fit_zip_nil, Nat.reducePow, and_true, polarityCode_lt, sourceCode_lt,
      laneNumber_lt, alternate_lt, signed16_lt]
    omega
  | channel =>
    obtain ⟨gain, coarse, fine⟩ := h
    simp only [entryWidths, entryFields, fit_zip_cons, fit_zip_nil, Nat.reducePow, and_true, true_and, boolCode_lt]
    omega
  | probe => simp only [entryWidths, entryFields, fit_zip_cons, fit_zip_nil, Nat.reducePow, and_true, boolCode_lt]
  | temp =>
    simp only [EntryInRange] at h
    by_cases controls : i = 8
    · rw [if_pos controls] at h
      simp only [entryWidths, entryFields, if_pos controls, fit_zip_cons, fit_zip_nil, Nat.reducePow, and_true, true_and,
        boolCode_lt, tempModeCode_lt]
      omega
    · rw [if_neg controls] at h
      simp only [entryWidths, entryFields, if_neg controls, fit_zip_cons, fit_zip_nil, Nat.reducePow, and_true, true_and,
        signed16_lt]
      omega
  | speed =>
    obtain ⟨speed, factor⟩ := h
    simp only [entryWidths, entryFields, fit_zip_cons, fit_zip_nil, Nat.reducePow, and_true]
    omega
  | profile =>
    obtain ⟨single, tandem, tridem, gross⟩ := h
    simp only [entryWidths, entryFields, fit_zip_cons, fit_zip_nil, Nat.reducePow, and_true]
    omega
  | cls =>
    obtain ⟨code, low, high, rules, grossMin, grossMax, profile⟩ := h
    refine fit_zip_append (by simp [length_ruleFields]) (fit_zip_append rfl ?_ (fit_zip_replicate fun n mem => ?_)) ?_
    · simp only [fit_zip_cons, fit_zip_nil, Nat.reducePow, and_true, true_and, boolCode_lt]
      omega
    · obtain ⟨r, held, mem⟩ := List.mem_flatMap.mp mem
      refine ruleFields_lt (fun x hx => ?_) mem
      obtain ⟨⟨-, first⟩, -, second⟩ := rules x (hx ▸ held)
      exact ⟨first, second⟩
    · have minimum := getD_lt grossMin (absent := 0xFFFFFFFF) (n := 4294967296) (by decide) (by decide)
      have maximum := getD_lt grossMax (absent := 0xFFFFFFFF) (n := 4294967296) (by decide) (by decide)
      simp only [fit_zip_cons, fit_zip_nil, Nat.reducePow, and_true, true_and, minimum, maximum]
      omega
  | testpat =>
    obtain ⟨count, spacings, speed, amplitude⟩ := h
    have velocity : (set.patterns.get ((ix4OfIndex i).getD .one)).speed < 65536 := by
      split at speed <;> omega
    refine fit_zip_append (by simp) (fit_zip_append rfl ?_ (fit_zip_replicate fun n mem => ?_)) ?_
    · simp only [fit_zip_cons, fit_zip_nil, Nat.reducePow, and_true, true_and, boolCode_lt]
      omega
    · obtain ⟨-, high⟩ := spacings n mem
      omega
    · simp only [fit_zip_cons, fit_zip_nil, Nat.reducePow, and_true, true_and, velocity]
      omega

/-! ### The round trip -/

theorem encodeEntry_eq (set : CalSet) (t : TableId) (i : Nat) :
    encodeEntry set t i = layout ((entryWidths t i).zip (entryFields set t i)) := rfl

theorem length_encodeEntry (set : CalSet) (t : TableId) (i : Nat) : (encodeEntry set t i).length = entryLength t i := by
  rw [encodeEntry_eq, length_layout, List.map_fst_zip (length_entryFields set t i).ge]
  rfl

/-- The fields of an entry read back from its coding. -/
theorem fieldsLE_encodeEntry {t : TableId} {i : Nat} (h : EntryInRange set t i) :
    fieldsLE (entryWidths t i) (encodeEntry set t i) = entryFields set t i := by
  have read := fieldsLE_layout (entry_fits h)
  rwa [List.map_fst_zip (length_entryFields set t i).ge, List.map_snd_zip (length_entryFields set t i).le] at read

theorem clampedPositions_replicate (n : Nat) : clampedPositions (List.replicate n false) = [] := by
  refine List.eq_nil_iff_forall_not_mem.mpr fun i mem => ?_
  simp [mem_clampedPositions, List.getElem?_replicate] at mem

theorem setIfInBounds_getD {α : Type} {n i : Nat} (v : Vector α n) (d : α) (inside : i < n) :
    v.setIfInBounds i (v.toList.getD i d) = v := by
  refine Vector.ext fun j hj => ?_
  rw [Vector.getElem_setIfInBounds]
  split
  · subst i
    simp [inside]
  · rfl

/-- Settles O41: the fields read back from their bytes, and the entry from its fields, none of them clamped. -/
theorem tableEntryRoundTrip : Obligations.TableEntryRoundTrip := by
  intro set t i inside h
  refine ⟨?_, length_encodeEntry set t i⟩
  have fields := fieldsLE_encodeEntry h
  cases t with
  | site => simp only [storeEntry, fields, readSite_fields h, clampedPositions_replicate]
  | lane => simp only [storeEntry, fields, readLane_fields h, clampedPositions_replicate, Quad.set_get]
  | channel => simp only [storeEntry, fields, readChannel_fields h, clampedPositions_replicate, Quad.setChan_chan]
  | probe => simp only [storeEntry, fields, readProbe_fields, clampedPositions_replicate, Quad.set_get]
  | temp =>
    by_cases controls : i = 8
    · subst controls
      simp only [storeEntry_controls, fields, readControls_fields h, clampedPositions_replicate]
    · have point : i < 8 := by
        simp only [entryCount] at inside
        omega
      simp only [storeEntry_tempPoint _ _ controls, fields, readTempPoint_fields controls h, clampedPositions_replicate,
        setIfInBounds_getD _ _ point]
  | speed =>
    simp only [storeEntry, fields, readSpeedPoint_fields h, clampedPositions_replicate, setIfInBounds_getD set.speed _ inside]
  | cls =>
    simp only [storeEntry, fields, readClass_fields h, clampedPositions_replicate, setIfInBounds_getD set.classes _ inside]
  | profile =>
    simp only [storeEntry, fields, readProfile_fields h, clampedPositions_replicate, setIfInBounds_getD set.profiles _ inside]
  | testpat => simp only [storeEntry, fields, readPattern_fields h, clampedPositions_replicate, Quad.set_get]

end entries

end Sys2Proof.Machine
end

section
/-! LANE_TEST (R160, R161): its refusals in their order, and the schedule of a test accepted: O49. -/

namespace Sys2Proof.Machine

/-! ### Lane and pattern operands (R189) -/

theorem laneOfNumber_none {n : Nat} (outside : n = 0 ∨ 5 ≤ n) : laneOfNumber n = none := by
  unfold laneOfNumber
  split
  case h_5 => rfl
  all_goals omega

theorem laneOfNumber_of_eq {l : Lane} {n : Nat} (number : laneNumber l = n) : laneOfNumber n = some l :=
  number ▸ laneOfNumber_laneNumber l

theorem ix4OfIndex_none {n : Nat} (outside : 4 ≤ n) : ix4OfIndex n = none := by
  unfold ix4OfIndex
  split
  case h_5 => rfl
  all_goals omega

theorem ix4OfIndex_of_laneNumber {i : Ix4} {n : Nat} (number : laneNumber i = n + 1) : ix4OfIndex n = some i := by
  obtain rfl : n = laneNumber i - 1 := by omega
  cases i <;> rfl

/-! ### A lane ready for a test (R160) -/

theorem mem_channels {c : ChannelId} {l : Lane} : c ∈ l.channels ↔ c.lane = l := by
  obtain ⟨l', r, x⟩ := c
  cases r <;> cases x <;> simp [Ix4.channels]

theorem laneHeld_eq_false {s : State} {l : Lane} :
    s.laneHeld l = false ↔ ∀ c : ChannelId, c.lane = l → (s.channel c).state ≠ .held := by
  simp only [State.laneHeld, List.any_eq_false, mem_channels, decide_eq_true_eq, ne_eq]

theorem laneReady_iff {s : State} {l : Lane} : laneReady s l = true ↔
    s.mode l = .opened ∧ (s.context l).state = .empty ∧ s.isOccupied l = false ∧
      ∀ c : ChannelId, c.lane = l → (s.channel c).state ≠ .held := by
  simp only [laneReady, Bool.and_eq_true, decide_eq_true_eq, Bool.not_eq_true', laneHeld_eq_false, and_assoc]

/-! ### The command -/

theorem doLaneTest_range {lane pattern : Byte} (outside : lane.toNat = 0 ∨ 5 ≤ lane.toNat ∨ 4 ≤ pattern.toNat)
    (s : State) : doLaneTest [lane, pattern] s = (s, ⟨.range, []⟩) := by
  rw [← or_assoc] at outside
  unfold doLaneTest
  split
  · have lane_eq : laneOfNumber lane.toNat = some _ := ‹_›
    have pattern_eq : ix4OfIndex pattern.toNat = some _ := ‹_›
    rcases outside with h | h
    · rw [laneOfNumber_none h] at lane_eq
      cases lane_eq
    · rw [ix4OfIndex_none h] at pattern_eq
      cases pattern_eq
  · rfl

section operands
variable {lane pattern : Byte} {l : Lane} {i : Ix4} (number : laneNumber l = lane.toNat)
  (index : laneNumber i = pattern.toNat + 1) {s : State}
include number index

/-- The checks of LANE_TEST on a lane and a pattern that are named (R160). -/
theorem doLaneTest_checks : doLaneTest [lane, pattern] s =
    if (s.set.patterns.get i).enabled = false then (s, ⟨.invalid, []⟩)
    else if s.ltg.test.isSome then (s, ⟨.busy, []⟩)
    else if laneReady s l = false then (s, ⟨.busy, []⟩)
    else (startTest l i s, testReply (startTest l i s)) := by
  have lane_eq : laneOfNumber (byteAt [lane, pattern] 0) = some l := laneOfNumber_of_eq number
  have pattern_eq : ix4OfIndex (byteAt [lane, pattern] 1) = some i := ix4OfIndex_of_laneNumber index
  rw [doLaneTest, lane_eq, pattern_eq]
  rfl

variable (enabled : (s.set.patterns.get i).enabled = true)
include enabled

theorem doLaneTest_busy (busy : s.ltg.test.isSome = true ∨ laneReady s l = false) :
    doLaneTest [lane, pattern] s = (s, ⟨.busy, []⟩) := by
  rw [doLaneTest_checks number index, if_neg (by simp [enabled])]
  rcases busy with running | unready
  · rw [if_pos running]
  · rw [if_pos unready, ite_self]

theorem doLaneTest_accepted (idle : s.ltg.test = none) (ready : laneReady s l = true) :
    doLaneTest [lane, pattern] s = (startTest l i s, testReply (startTest l i s)) := by
  rw [doLaneTest_checks number index, if_neg (by simp [enabled]), if_neg (by simp [idle]), if_neg (by simp [ready])]

end operands

/-! ### The schedule (R161) -/

theorem length_cumulative (base : Nat) (spacings : List Nat) :
    (cumulative base spacings).length = spacings.length + 1 := by
  induction spacings generalizing base with
  | nil => rfl
  | cons x xs ih => rw [cumulative, List.length_cons, ih, List.length_cons]

theorem getElem?_cumulative (base : Nat) (spacings : List Nat) {j : Nat} (inside : j ≤ spacings.length) :
    (cumulative base spacings)[j]? = some (base + (spacings.take j).sum) := by
  induction spacings generalizing base j with
  | nil =>
    obtain rfl : j = 0 := Nat.le_zero.mp inside
    rfl
  | cons x xs ih =>
    cases j with
    | zero => rfl
    | succ j =>
      rw [cumulative, List.getElem?_cons_succ, ih _ (Nat.le_of_succ_le_succ inside), List.take_succ_cons, List.sum_cons,
        Nat.add_assoc]

theorem length_rowAStartTimes (t0 : Time) (speed : Nat) (spacings : List Nat) :
    (rowAStartTimes t0 speed spacings).length = spacings.length + 1 := by
  rw [rowAStartTimes, List.length_map, length_cumulative]

theorem getElem?_rowAStartTimes (t0 : Time) (speed : Nat) (spacings : List Nat) {j : Nat} (inside : j ≤ spacings.length) :
    (rowAStartTimes t0 speed spacings)[j]? =
      some (later t0 (roundHalfUp (10 * (spacings.take j).sum * 16384) speed)) := by
  rw [rowAStartTimes, List.getElem?_map, getElem?_cumulative 0 _ inside, Option.map_some, Nat.zero_add]

theorem testSpeed_eq {site : SiteEntry} (order : site.vMin ≤ site.vMax) (speed : Nat) :
    testSpeed site speed = min (max speed site.vMin) site.vMax := by
  unfold testSpeed clampNat
  split_ifs <;> dsimp only <;> omega

/-- Settles O49: the checks in their order, and the schedule of the test accepted part by part. -/
theorem laneTestStarts : Obligations.LaneTestStarts := by
  intro s p tag lane pattern h ends
  have test {t : State} {r : Reply} (runs : doLaneTest [lane, pattern] s = (t, r)) : ends r t :=
    answers_any (f := ⟨0x31, tag, [lane, pattern]⟩) (c := .laneTest) rfl rfl runs h
  refine ⟨fun outside => test (doLaneTest_range outside s), fun l i number index => ?_⟩
  intro e ready
  refine ⟨fun disabled => ?_, fun enabled busy => ?_, fun enabled idle isReady order _ => ?_⟩
  · exact test ((doLaneTest_checks number index).trans (if_pos disabled))
  · refine test (doLaneTest_busy number index enabled (busy.imp_right fun unready => ?_))
    exact eq_false_of_ne_true (mt laneReady_iff.mp unready)
  · have accepted := test (doLaneTest_accepted number index enabled idle (laneReady_iff.mpr isReady))
    have pattern_eq : laneNumber i - 1 = pattern.toNat := by omega
    refine ⟨newTest s.set (s.xf.windows.get l) s.now l (laneNumber i - 1) e, accepted, rfl, pattern_eq, rfl, rfl, rfl,
      testSpeed_eq order _, rfl, rfl, length_rowAStartTimes .., fun j inside => getElem?_rowAStartTimes _ _ _ inside, rfl,
      fun last hl => ?_, rfl, rfl⟩
    show later (later ((rowAStartTimes _ _ _).getLast?.getD _) _) _ = _
    rw [show (rowAStartTimes _ _ _).getLast? = some last from hl]
    rfl

end Sys2Proof.Machine
end

section
/-! LANE_MODE (R157): a lane closes (R158), opens (R159) or has its test aborted (R167): O48. -/

namespace Sys2Proof.Machine

/-! ### Modes -/

theorem testLane_ne_of_mode {s : State} {l : Lane} (inv : TestInv s) (mode : s.mode l ≠ .test) : s.testLane ≠ some l :=
  mt (inv l).mpr mode

@[simp] theorem mode_noteEmptied (s : State) (l : Lane) : (noteEmptied s).mode l = s.mode l := by
  rw [State.mode, noteEmptied_ltg]
  rfl

/-! ### A lane that closes (R158) -/

/-- A lane whose vehicle is gone falls quiet: its channels OFF, its crossings, occupancy and trigger dropped. -/
def shutLane (l : Lane) (s : State) : State :=
  { s.withChannels fun c => if c.lane = l then (s.channel c).toOff else s.channel c with
    xf := { s.xf with pools := s.xf.pools.set l ⟨[], []⟩, queues := s.xf.queues.set l [] }
    va := { s.va with occupied := s.va.occupied.set l none }
    cle := { s.cle with triggers := s.cle.triggers.set l none }
    ltg := { s.ltg with modes := s.ltg.modes.set l .closed } }

theorem shutLane_channel (l : Lane) (s : State) (c : ChannelId) : (shutLane l s).channel c =
    if c.lane = l then (s.channel c).toOff else s.channel c := State.channel_withChannels ..

/-- A lane that falls quiet leaves its channels their health, and has them OFF. -/
theorem channel_shutLane (l : Lane) (s : State) (c : ChannelId) :
    ((shutLane l s).channel c).health = (s.channel c).health ∧
      ((shutLane l s).channel c).state = if c.lane ≠ l then (s.channel c).state else .off := by
  rw [shutLane_channel]
  by_cases on : c.lane = l
  · rw [if_pos on, if_neg (not_not_intro on)]
    exact ⟨rfl, rfl⟩
  · rw [if_neg on, if_pos on]
    exact ⟨rfl, rfl⟩

theorem closeLane_eq (l : Lane) (s : State) : closeLane l s =
    shutLane l (if (s.context l).state = .empty then s else closeVehicle l Flag.interrupted s) := by
  unfold closeLane
  dsimp only
  rw [forLaneChannels_eq, emptyCrossings_eq]
  rfl

theorem closeLane_empty {l : Lane} {s : State} (empty : (s.context l).state = .empty) : closeLane l s = shutLane l s := by
  rw [closeLane_eq, if_pos empty]

@[simp] theorem mode_closeLane (l : Lane) (s : State) : (closeLane l s).mode l = .closed := by
  rw [closeLane_eq]
  exact Quad.get_set_self ..

/-- A closure on a lane without a test leaves every channel as it is. -/
theorem closeVehicle_sfe {s : State} {l : Lane} (cause : Flags) (other : s.testLane ≠ some l) :
    (closeVehicle l cause s).sfe = s.sfe := by
  by_cases no_axle : (s.context l).axles = []
  · rw [closeVehicle_ghost cause no_axle]
    rfl
  · have stays : (recordedClosure l cause s).testLane ≠ some l := by
      rw [State.testLane, recordedClosure_ltg]
      exact other
    rw [closeVehicle_record cause no_axle, finishTest_other _ _ stays]
    unfold recordedClosure
    dsimp only
    split <;> simp

theorem channel_closeLane {s : State} {l : Lane} (other : s.testLane ≠ some l) (c : ChannelId) :
    (closeLane l s).channel c = if c.lane = l then (s.channel c).toOff else s.channel c := by
  have same : (if (s.context l).state = .empty then s else closeVehicle l Flag.interrupted s).channel c = s.channel c := by
    split
    · rfl
    · rw [State.channel, closeVehicle_sfe _ other]
      rfl
  rw [closeLane_eq, ← same]
  exact shutLane_channel ..

/-! ### A lane that opens (R159) -/

/-- The re-read of a lane that holds no traffic and no hold: a vehicle opens where the lane reads occupied (R74, R83). -/
theorem rereadPresence_quiet {s : State} {l : Lane} (other : s.testLane ≠ some l) (empty : s.context l = emptyContext)
    (free : s.isOccupied l = false) (held : s.laneHeld l = false) : rereadPresence l s =
      if s.readsOccupied l = true then (s.withOccupied l (some s.now)).withContext l (openedNow s) else s := by
  unfold rereadPresence
  by_cases reads : s.readsOccupied l = true
  · rw [if_pos ⟨reads, free⟩, if_pos reads,
      takeOccupied_opens (abortTestOn_other other) other (by rw [empty]; rfl), held]
    rfl
  · rw [if_neg (by simp [reads]), if_neg (by simp [free]), if_neg reads]

/-- A lane as its mode changes to OPEN: its enabled channels go to SETTLING. -/
def settleLane (l : Lane) (s : State) : State :=
  (s.withMode l .opened).withChannels fun c =>
    if c.lane = l ∧ (s.set.channels.chan c).enabled = true then (s.channel c).toSettling else s.channel c

/-- A CLOSED lane opens: its channels settle, and a vehicle opens where the lane reads occupied. -/
theorem openLane_closed {s : State} {l : Lane} (inv : LaneInv s) (closed : s.mode l = .closed) : openLane l s =
    if s.readsOccupied l = true
    then ((settleLane l s).withOccupied l (some s.now)).withContext l (openedNow s) else settleLane l s := by
  obtain ⟨test, off, ⟨-, quiet⟩, cleared⟩ := inv
  obtain ⟨-, -, empty, free, -⟩ := quiet l closed
  have other : s.testLane ≠ some l := testLane_ne_of_mode test (by simp [closed])
  have held : (settleLane l s).laneHeld l = false := laneHeld_eq_false.mpr fun c lane => by
    have silent : (s.channel c).state = .off := (off c).mpr (.inl (lane ▸ closed))
    rw [settleLane, State.channel_withChannels]
    split
    · nofun
    · rw [silent]
      nofun
  have settled : openLane l s = rereadPresence l (settleLane l s) := by
    unfold openLane settleLane
    dsimp only
    rw [settle_channels]
    simp only [ite_and]
    rfl
  rw [settled, rereadPresence_quiet (s := settleLane l s) other (cleared l empty) free held]
  rfl

/-! ### The command -/

theorem doLaneMode_range {lane mode : Byte} (outside : lane.toNat = 0 ∨ 5 ≤ lane.toNat ∨ 2 ≤ mode.toNat) (s : State) :
    doLaneMode [lane, mode] s = (s, ⟨.range, []⟩) := by
  rw [← or_assoc] at outside
  unfold doLaneMode
  split
  · rfl
  · have lane_eq : laneOfNumber lane.toNat = some _ := ‹_›
    rcases outside with h | h
    · rw [laneOfNumber_none h] at lane_eq
      cases lane_eq
    · exact if_pos h

/-- LANE_MODE on a named lane: the change is made, and the mode that the lane then has is answered (R157). -/
theorem doLaneMode_named {lane mode : Byte} {l : Lane} (number : laneNumber l = lane.toNat) (close : Bool)
    (code : mode.toNat = close.toNat) (s : State) : doLaneMode [lane, mode] s =
      (changeLane l close s, ⟨.ok, choiceByte (modeCode ((changeLane l close s).mode l))⟩) := by
  have lane_eq : laneOfNumber (byteAt [lane, mode] 0) = some l := laneOfNumber_of_eq number
  have mode_eq : byteAt [lane, mode] 1 = close.toNat := code
  have closes : decide (close.toNat = 1) = close := by cases close <;> rfl
  rw [doLaneMode, lane_eq]
  dsimp only
  rw [mode_eq, if_neg (Nat.not_lt.mpr (Bool.toNat_le close)), closes]

/-! ### The lane under test (R167) -/

/-- The device after the abort of a test on this lane, part by part. -/
def abortedLane (l : Lane) (x : TestContext) (s : State) : State :=
  { s.withChannels fun c => if c.lane = l then discardHit (s.channel c) else s.channel c with
    xf := { s.xf with pools := s.xf.pools.set l ⟨[], []⟩, queues := s.xf.queues.set l [] }
    va := { s.va with contexts := s.va.contexts.set l emptyContext }
    ltg := ⟨s.ltg.modes.set l .opened, none, some ⟨l, x.pattern, .aborted, s.siteClock, none, none⟩⟩
    ports := (raised Notice.maint s).ports }

theorem abortTestOn_eq {s : State} {l : Lane} {x : TestContext} (test : s.ltg.test = some x) (lane : x.lane = l) :
    abortTestOn l s = abortedLane l x s := by
  rw [abortTestOn_testing test lane, emptyCrossings_eq]
  rfl

theorem discardHit_health_state (c : Channel) : (discardHit c).health = c.health ∧
    (discardHit c).state = if c.state = .inHit then .idle else c.state := by
  rw [discardHit_eq]
  split <;> exact ⟨rfl, rfl⟩

section lane
variable (l : Lane) (x : TestContext) (s : State)

theorem abortedLane_channel (c : ChannelId) : (abortedLane l x s).channel c =
    if c.lane = l then discardHit (s.channel c) else s.channel c := State.channel_withChannels ..

theorem context_abortedLane : (abortedLane l x s).context l = emptyContext := Quad.get_set_self ..

/-- An aborted test leaves its lane's channels their health, and takes them out of their hits. -/
theorem channel_abortedLane (c : ChannelId) :
    ((abortedLane l x s).channel c).health = (s.channel c).health ∧ ((abortedLane l x s).channel c).state =
      if c.lane ≠ l then (s.channel c).state else if (s.channel c).state = .inHit then .idle else (s.channel c).state := by
  rw [abortedLane_channel]
  by_cases on : c.lane = l
  · rw [if_pos on, if_neg (not_not_intro on)]
    exact discardHit_health_state (s.channel c)
  · rw [if_neg on, if_pos on]
    exact ⟨rfl, rfl⟩

theorem row_emptied (q : Quad (Rows (List PoolHit))) (r : Row) : (q.set l ⟨[], []⟩).row l r = [] := by
  rw [Quad.row, Quad.get_set_self]
  cases r <;> rfl

end lane

/-- Settles O48: each cell of R157 by the lane's mode and the mode requested. -/
theorem laneModeActs : Obligations.LaneModeActs := by
  intro s p tag lane mode h inv ends
  have act {t : State} {r : Reply} (runs : doLaneMode [lane, mode] s = (t, r)) : ends r t :=
    answers_any (f := ⟨0x30, tag, [lane, mode]⟩) (c := .laneMode) rfl rfl runs h
  refine ⟨fun outside => act (doLaneMode_range outside s), fun l number admitted => ?_⟩
  have opens {t : State} (zero : mode.toNat = 0) (changes : changeLane l false s = t) (becomes : t.mode l = .opened) :
      ends ⟨.ok, [0]⟩ t := by
    have named := act (doLaneMode_named number false zero s)
    rwa [changes, becomes] at named
  have closes {t : State} (one : mode.toNat = 1) (changes : changeLane l true s = t) (becomes : t.mode l = .closed) :
      ends ⟨.ok, [1]⟩ t := by
    have named := act (doLaneMode_named number true one s)
    rwa [changes, becomes] at named
  have testInv : TestInv s := inv.1
  refine ⟨fun opened zero => ?_, fun closed one => ?_, fun opened one => ?shuts, fun closed zero => ?settles,
    fun x testing test => ?aborts⟩
  · exact opens zero (by simp only [changeLane, opened]) opened
  · exact closes one (by simp only [changeLane, closed]) closed
  case shuts =>
    have other : s.testLane ≠ some l := testLane_ne_of_mode testInv (by simp [opened])
    refine ⟨closeLane l s, closes one (by simp only [changeLane, opened]) (by rw [mode_noteEmptied, mode_closeLane]),
      channel_closeLane other, ?_⟩
    rw [closeLane_eq]
    rfl
  case settles =>
    have opened := openLane_closed inv closed
    refine ⟨openLane l s, opens zero (by simp only [changeLane, closed]) ?_, fun c => ?_, ?_⟩
    · rw [opened]
      split <;> exact Quad.get_set_self ..
    · rw [opened]
      split <;> exact State.channel_withChannels ..
    · rw [opened]
      split <;> rfl
  case aborts =>
    have lane : x.lane = l := by
      have on := (testInv l).mp testing
      rw [State.testLane, test] at on
      exact Option.some.inj on
    have aborted := abortTestOn_eq test lane
    rcases Nat.lt_succ_iff_lt_or_eq.mp admitted with low | one
    · have zero : mode.toNat = 0 := Nat.lt_one_iff.mp low
      obtain rfl : mode = 0#8 := BitVec.eq_of_toNat_eq zero
      refine ⟨abortTestOn l s, opens zero (by simp only [changeLane, testing]) ?_, ?_⟩
      · rw [mode_noteEmptied, aborted]
        exact Quad.get_set_self ..
      · rw [aborted]
        refine ⟨Quad.get_set_self .., row_emptied l _, Quad.get_set_self .., rfl, rfl, rfl, rfl, rfl, rfl, rfl, rfl,
          channel_abortedLane l x s⟩
    · obtain rfl : mode = 1#8 := BitVec.eq_of_toNat_eq one
      have shut : closeLane l (abortTestOn l s) = shutLane l (abortedLane l x s) := by
        rw [aborted]
        exact closeLane_empty (by rw [context_abortedLane]; rfl)
      refine ⟨closeLane l (abortTestOn l s), closes one (by simp only [changeLane, testing]) ?_, ?_⟩
      · rw [mode_noteEmptied, mode_closeLane]
      · rw [shut]
        refine ⟨Quad.get_set_self .., row_emptied l _, Quad.get_set_self .., ?_, rfl, rfl, rfl, rfl, rfl, rfl, rfl,
          fun c => ?_⟩
        · exact congrArg (fun modes => (⟨modes, none, _⟩ : Ltg)) (Quad.set_set ..)
        · obtain ⟨shutHealth, shutState⟩ := channel_shutLane l (abortedLane l x s) c
          obtain ⟨health, state⟩ := channel_abortedLane l x s c
          refine ⟨shutHealth.trans health, shutState.trans (ite_congr rfl (fun off => ?_) fun _ => rfl)⟩
          exact state.trans (if_pos off)

end Sys2Proof.Machine
end

section
/-! A command frame received as it was sent (R172, R173, 11.1): O53. -/

namespace Sys2Proof.Machine

-- Elaborated in turn: side by side, the proofs of this section bring the compile to its memory limit.
set_option Elab.async false

/-! ### Frame assembly (R172) -/

section assembly
variable {x : Port}

/-- A length byte above 240 discards the frame (R172). -/
theorem assemble_tooLong {bytes : List Byte} {b : Byte} (length : bytes.length = 2) (high : 240 < b.toNat) :
    assemble bytes b x = { x with rx := .hunting, frameErrors := x.frameErrors + 1 } := by
  simp [assemble, length, high]

/-- The code, the tag and a length byte of at most 240 join the partial frame (R172). -/
theorem assemble_head {bytes : List Byte} {b : Byte} (length : bytes.length ≤ 2) (low : bytes.length = 2 → b.toNat ≤ 240) :
    assemble bytes b x = { x with rx := .assembling (bytes ++ [b]) } := by
  have short : ¬ 3 < bytes.length + 1 := by omega
  have fits : ¬ (bytes.length + 1 = 3 ∧ 240 < b.toNat) := by omega
  simp only [assemble, List.length_append, List.length_singleton, if_neg fits, short, false_and, if_false]

/-- The length byte stays where it is as bytes join. -/
theorem lengthByte_append {bytes : List Byte} (long : 2 < bytes.length) (more : List Byte) :
    lengthByte (bytes ++ more) = lengthByte bytes := by
  rw [lengthByte, lengthByte, List.getD_append _ _ _ _ long]

/-- From the length byte on a byte joins the partial frame, and the second check byte completes it (R172). -/
theorem assemble_rest {bytes : List Byte} (long : 2 < bytes.length) (b : Byte) : assemble bytes b x =
    { x with rx := if bytes.length + 1 = lengthByte bytes + 5 then .complete (bytes ++ [b])
      else .assembling (bytes ++ [b]) } := by
  have past : ¬ (bytes.length + 1 = 3 ∧ 240 < b.toNat) := by omega
  have length : 3 < bytes.length + 1 := by omega
  simp only [assemble, List.length_append, List.length_singleton, if_neg past, lengthByte_append long, length, true_and]
  split <;> rfl

/-- The bytes that a partial frame still wants complete it (R172). -/
theorem foldl_receiveByte_rest {bytes rest : List Byte} (long : 2 < bytes.length) (some_left : rest ≠ [])
    (total : bytes.length + rest.length = lengthByte bytes + 5) :
    rest.foldl (fun y b => receiveByte b y) { x with rx := .assembling bytes } =
      { x with rx := .complete (bytes ++ rest) } := by
  induction rest generalizing bytes with
  | nil => exact absurd rfl some_left
  | cons b rest ih =>
    have joins : receiveByte b { x with rx := .assembling bytes } =
        { x with rx := if bytes.length + 1 = lengthByte bytes + 5 then .complete (bytes ++ [b])
          else .assembling (bytes ++ [b]) } := assemble_rest long b
    rw [List.length_cons] at total
    rw [List.foldl_cons, joins]
    cases rest with
    | nil =>
      rw [List.length_nil, Nat.zero_add] at total
      rw [if_pos total, List.foldl_nil]
    | cons c rest =>
      have wanting : bytes.length + 1 ≠ lengthByte bytes + 5 := by rw [List.length_cons] at total; omega
      rw [if_neg wanting, ih (by rw [List.length_append]; omega) (List.cons_ne_nil _ _), List.append_assoc,
        List.singleton_append]
      rw [List.length_append, lengthByte_append long, List.length_singleton]
      omega

/-- A hunting receiver that hears a frame of at most 240 payload bytes assembles it whole (R172, 11.1). -/
theorem foldl_receiveByte_frame {code tag length : Byte} {rest : List Byte} (low : length.toNat ≤ 240)
    (total : rest.length = length.toNat + 2) (hunting : x.rx = .hunting) :
    ([0xC3, 0x3C] ++ code :: tag :: length :: rest).foldl (fun y b => receiveByte b y) x =
      { x with rx := .complete (code :: tag :: length :: rest) } := by
  have sync : receiveByte 0x3C (receiveByte 0xC3 x) = { x with rx := .assembling [] } := by simp [receiveByte, hunting]
  have joins {bytes : List Byte} {b : Byte} (short : bytes.length ≤ 2) (fits : bytes.length = 2 → b.toNat ≤ 240) :
      receiveByte b { x with rx := .assembling bytes } = { x with rx := .assembling (bytes ++ [b]) } :=
    assemble_head short fits
  have head : receiveByte length (receiveByte tag (receiveByte code { x with rx := .assembling [] })) =
      { x with rx := .assembling [code, tag, length] } := by
    rw [joins (by simp) (by simp), joins (by simp) (by simp), joins (by simp) fun _ => low]
    rfl
  have left : rest ≠ [] := List.ne_nil_of_length_pos (by omega)
  have wants : [code, tag, length].length + rest.length = lengthByte [code, tag, length] + 5 := by
    show 3 + rest.length = length.toNat + 5
    omega
  calc ([0xC3, 0x3C] ++ code :: tag :: length :: rest).foldl (fun y b => receiveByte b y) x
      = rest.foldl (fun y b => receiveByte b y)
          (receiveByte length (receiveByte tag (receiveByte code (receiveByte 0x3C (receiveByte 0xC3 x))))) := rfl
    _ = { x with rx := .complete (code :: tag :: length :: rest) } := by
      rw [sync, head, foldl_receiveByte_rest (by simp) left wants]
      rfl

end assembly

/-! ### The check and the reading of a complete frame (R173, 11.1) -/

/-- Bytes that end in their own check bytes pass the check (R173). -/
theorem frameChecks_crc (body : List Byte) : frameChecks (body ++ crcBytes body) = true := by
  have length : (body ++ crcBytes body).length - 2 = body.length := by simp [crcBytes]
  rw [frameChecks, length, List.drop_left, List.take_left]
  exact decide_eq_true rfl

/-- A payload of at most 240 bytes is counted by its length byte (11.1). -/
theorem toNat_lengthByte {payload : List Byte} (low : payload.length ≤ 240) :
    (BitVec.ofNat 8 payload.length).toNat = payload.length := by
  rw [BitVec.toNat_ofNat]
  omega

/-- Settles O53: the receiver's states through the bytes in turn, the check over the body, and the places of 11.1. -/
theorem frameIsReceivedAsSent : Obligations.FrameIsReceivedAsSent := by
  intro f x low hunting bytes
  have count := toNat_lengthByte low
  refine ⟨?_, frameChecks_crc (frameBody f), ?_⟩
  · have total : (f.payload ++ crcBytes (frameBody f)).length = (BitVec.ofNat 8 f.payload.length).toNat + 2 := by
      rw [count, List.length_append]
      rfl
    exact foldl_receiveByte_frame (by rw [count]; exact low) total hunting
  · have read : frameOf bytes = ⟨f.code, f.tag, (f.payload ++ crcBytes (frameBody f)).take
      (BitVec.ofNat 8 f.payload.length).toNat⟩ := rfl
    rw [read, count, List.take_left]

end Sys2Proof.Machine
end

section
/-! The receiver's events on a port that is not DISABLED (R171, R172): O54. -/

namespace Sys2Proof.Machine

-- Elaborated in turn: side by side, the proofs of this section bring the compile to its memory limit.
set_option Elab.async false

/-! ### A partial frame dropped (R171, R172) -/

/-- A frame is partial: its second sync byte is awaited, or it is being assembled (R172). -/
def Receiver.Partial (r : Receiver) : Prop := r = .awaitingSync ∨ ∃ bytes, r = .assembling bytes

section receiver
variable {x : Port} {bytes : List Byte}

theorem dropPartial_hunting (hunting : x.rx = .hunting) : dropPartial x = x := by rw [dropPartial, hunting]

theorem dropPartial_awaiting (awaiting : x.rx = .awaitingSync) : dropPartial x = { x with rx := .hunting } := by
  rw [dropPartial, awaiting]

theorem dropPartial_assembling (assembling : x.rx = .assembling bytes) :
    dropPartial x = { x with rx := .hunting, frameErrors := x.frameErrors + 1 } := by rw [dropPartial, assembling]

/-- What has been dropped leaves no partial frame. -/
theorem dropPartial_dropPartial (x : Port) : dropPartial (dropPartial x) = dropPartial x := by
  cases rx : x.rx with
  | awaitingSync => rw [dropPartial_awaiting rx, dropPartial_hunting rfl]
  | assembling bytes => rw [dropPartial_assembling rx, dropPartial_hunting rfl]
  | _ =>
    have stays : dropPartial x = x := by rw [dropPartial, rx]
    rw [stays, stays]

/-! ### A good character's byte (R172) -/

theorem receiveByte_hunting (hunting : x.rx = .hunting) (b : Byte) :
    receiveByte b x = { x with rx := if b = 0xC3#8 then .awaitingSync else .hunting } := by
  rw [receiveByte, hunting]
  dsimp only
  split
  · rfl
  · rw [← hunting]

theorem receiveByte_awaiting (awaiting : x.rx = .awaitingSync) (b : Byte) : receiveByte b x =
    { x with rx := if b = 0x3C#8 then .assembling [] else if b = 0xC3#8 then .awaitingSync else .hunting } := by
  rw [receiveByte, awaiting]
  dsimp only
  split
  · rfl
  · split
    · rw [← awaiting]
    · rfl

theorem receiveByte_assembling (assembling : x.rx = .assembling bytes) (b : Byte) :
    receiveByte b x = assemble bytes b x := by rw [receiveByte, assembling]

end receiver

/-! ### The inter-byte gap (R172) -/

section gap
variable {s : State} {p : PortId}

theorem gapDue_hunting (hunting : (s.port p).rx = .hunting) : gapDue s p = false := by rw [gapDue, hunting]

/-- A partial frame's gap is due past 82 ticks (R172). -/
theorem gapDue_partial (partly : (s.port p).rx.Partial) : gapDue s p = decide (82 < elapsed s.now (s.port p).rxLast) := by
  obtain awaiting | ⟨bytes, assembling⟩ := partly
  · rw [gapDue, awaiting]
  · rw [gapDue, assembling]

/-- A partial frame's gap has run out whatever came since where it passes 82 ticks by that much. -/
theorem gapOverdue_partial (partly : (s.port p).rx.Partial) (since : Nat) :
    gapOverdue s p since = decide (82 + since < elapsed s.now (s.port p).rxLast) := by
  rw [gapOverdue, gapDue_partial partly, ← Bool.decide_and]
  exact decide_eq_decide.mpr ⟨And.right, fun late => ⟨by omega, late⟩⟩

/-- A port whose frame is not complete has nothing to check (R173). -/
theorem frameCompletes_none (none_due : frameDue s p = false) : frameCompletes p s = s := by
  cases rx : (s.port p).rx with
  | complete bytes => rw [frameDue, rx] at none_due; cases none_due
  | _ => simp only [frameCompletes, rx]

/-- Where no complete frame waits, none is checked before a character (R188). -/
theorem completeEarlier_quiet (quiet : s.clock.started = true ∨ ∀ q, frameDue s q = false) : completeEarlier s = s := by
  rcases quiet with started | none_due
  · exact completeEarlier_started started
  · have passes (q : PortId) : frameCompletes q s = s := frameCompletes_none (none_due q)
    simp [completeEarlier, PortId.all, passes]

/-- With no frame complete, what comes before a character is the discard of a partial frame whose gap has run out. -/
theorem settleReceiver_quiet (quiet : s.clock.started = true ∨ ∀ q, frameDue s q = false) (none_due : frameDue s p = false)
    (since : Nat) : settleReceiver p since s =
      s.withPort p (if 82 + since < elapsed s.now (s.port p).rxLast then dropPartial (s.port p) else s.port p) := by
  have whole : settleReceiver p since s = if gapOverdue s p since then gapExpires p s else s := by
    rw [settleReceiver, completeEarlier_quiet quiet]
    simp only [none_due, Bool.false_eq_true, if_false]
  have drops (partly : (s.port p).rx.Partial) : (if gapOverdue s p since then gapExpires p s else s) =
      s.withPort p (if 82 + since < elapsed s.now (s.port p).rxLast then dropPartial (s.port p) else s.port p) := by
    rw [gapOverdue_partial partly, gapExpires]
    simp only [decide_eq_true_eq]
    split
    · rfl
    · rw [State.withPort_port]
  rw [whole]
  cases rx : (s.port p).rx with
  | hunting =>
    rw [gapOverdue, gapDue_hunting rx, dropPartial_hunting rx, ite_self, State.withPort_port]
    rfl
  | awaitingSync => exact drops (.inl rx)
  | assembling bytes => exact drops (.inr ⟨bytes, rx⟩)
  | complete bytes => rw [frameDue, rx] at none_due; cases none_due

/-! ### The events on a live device -/

section live
variable (live : Live s) (enabled : (s.port p).role ≠ .disabled)
include live enabled

/-- A break with nothing partial has no effect (R171). -/
theorem exec_lineBreak_hunting (hunting : (s.port p).rx = .hunting) : exec (.lineBreak p) s = .next s := by
  refine (onLive_live live _).trans (congrArg _ ?_)
  simp [breakReceived, State.disabled, enabled, gapOverdue, gapDue_hunting hunting, hunting]

/-- A break discards a partial frame without count, unless the gap before it had run out (R171, R172). -/
theorem exec_lineBreak_partial (partly : (s.port p).rx.Partial) : exec (.lineBreak p) s = .next (s.withPort p
    (if elapsed s.now (s.port p).rxLast ≤ 98 + characterTicks (s.port p).rate 1 then { s.port p with rx := .hunting }
      else dropPartial (s.port p))) := by
  refine (onLive_live live _).trans (congrArg _ ?_)
  have overdue := gapOverdue_partial partly (breakTicks (s.port p).rate)
  have bound : 82 + breakTicks (s.port p).rate = 98 + characterTicks (s.port p).rate 1 := by rw [breakTicks]; omega
  rw [bound] at overdue
  by_cases late : 98 + characterTicks (s.port p).rate 1 < elapsed s.now (s.port p).rxLast
  · simp [breakReceived, State.disabled, enabled, overdue, late, Nat.not_le.mpr late, gapExpires]
  · have in_time := Nat.not_lt.mp late
    obtain awaiting | ⟨bytes, assembling⟩ := partly
    · simp [breakReceived, State.disabled, enabled, overdue, late, in_time, awaiting]
    · simp [breakReceived, State.disabled, enabled, overdue, late, in_time, assembling]

variable (none_due : frameDue s p = false) (quiet : s.clock.started = true ∨ ∀ q, frameDue s q = false)
include none_due quiet

/-- A good character's byte goes to what the gap has left (R172). -/
theorem exec_characterReceived_good (b : Byte) : exec (.characterReceived p b true) s = .next (s.withPort p
    { receiveByte b (if 82 + characterTicks (s.port p).rate 1 < elapsed s.now (s.port p).rxLast
        then dropPartial (s.port p) else s.port p) with rxLast := s.now }) := by
  refine (onLive_live live _).trans (congrArg _ ?_)
  simp [characterEnds, State.disabled, enabled, settleReceiver_quiet quiet none_due]

/-- A framing error drops what was being assembled, as the gap before it would have (R171). -/
theorem exec_characterReceived_bad (b : Byte) :
    exec (.characterReceived p b false) s = .next (s.withPort p (dropPartial (s.port p))) := by
  refine (onLive_live live _).trans (congrArg _ ?_)
  simp [characterEnds, State.disabled, enabled, settleReceiver_quiet quiet none_due, apply_ite dropPartial,
    dropPartial_dropPartial]

end live

/-- The gap's timeout drops a partial frame from 83 ticks on (R172). -/
theorem exec_interByteGapTimeout (live : Live s) : exec (.interByteGapTimeout p) s =
    .next (if gapDue s p then s.withPort p (dropPartial (s.port p)) else s) := onLive_live live _

end gap

/-- Settles O54: each event by the receiver's state and the gap before it. -/
theorem receiverEvents : Obligations.ReceiverEvents := by
  intro s p live enabled none_due quiet x gap char drop
  refine ⟨fun b => ?characters, fun hunting => exec_lineBreak_hunting live enabled hunting, fun awaiting => ?breakAwaiting,
    fun bytes assembling => ?breakAssembling, fun late => ?late, fun in_time => ?inTime⟩
  case characters =>
    intro good
    have settled {y z : Port} (left : (if 82 + char < gap then dropPartial x else x) = y) (hears : receiveByte b y = z) :
        good z := by
      rw [← hears, ← left]
      exact exec_characterReceived_good live enabled none_due quiet b
    have on_time (in_time : gap ≤ 82 + char) : (if 82 + char < gap then dropPartial x else x) = x :=
      if_neg (Nat.not_lt.mpr in_time)
    refine ⟨fun hunting => ?_, fun awaiting in_time => settled (on_time in_time) (receiveByte_awaiting awaiting b),
      fun awaiting late => ?_, fun bytes assembling late => ?_, fun bytes assembling in_time => ?_, ?_⟩
    · exact settled (by rw [dropPartial_hunting hunting, ite_self]) (receiveByte_hunting hunting b)
    · exact settled ((if_pos late).trans (dropPartial_awaiting awaiting)) (receiveByte_hunting rfl b)
    · exact settled ((if_pos late).trans (dropPartial_assembling assembling)) (receiveByte_hunting rfl b)
    · have joins {z : Port} (assembles : assemble bytes b x = z) : good z :=
        settled (on_time in_time) ((receiveByte_assembling assembling b).trans assembles)
      exact ⟨fun length high => joins (assemble_tooLong length high),
        fun length low => joins (assemble_head length.le fun _ => low),
        fun short => joins (assemble_head short.le fun length => absurd length short.ne),
        fun long => joins (assemble_rest long b)⟩
    · have drops {z : Port} (dropped : dropPartial x = z) :
          exec (.characterReceived p b false) s = .next (s.withPort p z) := by
        rw [← dropped]
        exact exec_characterReceived_bad live enabled none_due quiet b
      refine ⟨fun bytes assembling => drops (dropPartial_assembling assembling),
        fun awaiting => drops (dropPartial_awaiting awaiting), fun hunting => ?_⟩
      exact (drops (dropPartial_hunting hunting)).trans (congrArg _ (State.withPort_port s p))
  case breakAwaiting =>
    have breaks := exec_lineBreak_partial live enabled (.inl awaiting)
    rwa [dropPartial_awaiting awaiting, ite_self] at breaks
  case breakAssembling =>
    have breaks := exec_lineBreak_partial live enabled (.inr ⟨bytes, assembling⟩)
    rw [dropPartial_assembling assembling] at breaks
    exact breaks
  case late =>
    have expires (partly : x.rx.Partial) : exec (.interByteGapTimeout p) s = .next (s.withPort p (dropPartial x)) := by
      rw [exec_interByteGapTimeout live, gapDue_partial partly]
      exact congrArg _ (if_pos (decide_eq_true late))
    refine ⟨fun bytes assembling => ?_, fun awaiting => ?_, fun hunting => ?_⟩
    · rw [expires (.inr ⟨bytes, assembling⟩), dropPartial_assembling assembling]
    · rw [expires (.inl awaiting), dropPartial_awaiting awaiting]
    · rw [exec_interByteGapTimeout live, gapDue_hunting hunting]
      rfl
  case inTime =>
    have waits : gapDue s p = false := by
      rw [gapDue]
      split
      · exact decide_eq_false (Nat.not_lt.mpr in_time)
      · exact decide_eq_false (Nat.not_lt.mpr in_time)
      · rfl
      · rfl
    rw [exec_interByteGapTimeout live, waits]
    rfl

end Sys2Proof.Machine
end

section
/-! Frames served and refused: FRAME_RECEIVED and RESPONSE_SENT (R173, R174, R188): O55; the waiting and the refusals of port
commands (R170, R174, R175): O56. -/

namespace Sys2Proof.Machine

-- Elaborated in turn: side by side, the proofs of this section bring the compile to its memory limit.
set_option Elab.async false

/-! ### A complete frame (R173, R174, R188) -/

/-- Before the first sample tick a frame waits for it behind those that completed earlier (R188). -/
theorem serve_early {s : State} {p : PortId} (enabled : (s.port p).role ≠ .disabled) (unstarted : s.clock.started = false)
    (f : Frame) : serve p f s = { s with early := s.early ++ [(p, f)] } := by
  simp [serve, State.disabled, enabled, unstarted]

/-- FRAME_RECEIVED with a frame complete: served where it passes the check, dropped with a count where not (R173). -/
theorem exec_frameReceived {s : State} (live : Live s) {p : PortId} {bytes : List Byte}
    (complete : (s.port p).rx = .complete bytes) : exec (.frameReceived p) s = .next
      (if frameChecks bytes then serve p (frameOf bytes) (s.withPort p { s.port p with rx := .hunting })
        else s.withPort p { s.port p with rx := .hunting, frameErrors := (s.port p).frameErrors + 1 }) := by
  have due : frameDue s p = true := by rw [frameDue, complete]
  have event : exec (.frameReceived p) s = .next (frameCompletes p s) := onLive_whenever live (b := (frameDue · p)) due
  rw [event, frameCompletes]
  simp only [complete]

/-- RESPONSE_SENT with the last character sent: the transmitter idles, and a buffered frame is taken (R174). -/
theorem exec_responseSent {s : State} (live : Live s) {p : PortId} {frame : List Byte} {finish : Time}
    (sending : (s.port p).tx = .sending frame finish) (sent : reached s.now finish = true) :
    exec (.responseSent p) s = .next (responseEnds p s) := by
  have due : responseDue s p = true := by rw [responseDue, sending]; exact sent
  exact onLive_whenever live (b := (responseDue · p)) due

/-- Settles O55: a frame served by the transmitter and the buffer, or kept for the first tick; then the buffered one. -/
theorem framesAreServed : Obligations.FramesAreServed := by
  intro s p live enabled x taken
  refine ⟨fun bytes complete => ?_, fun frame finish sending sent => ?_⟩
  · intro u
    have port : u.port p = { x with rx := .hunting } := State.port_withPort_self ..
    have role : (u.port p).role ≠ .disabled := by rw [port]; exact enabled
    have served (passes : frameChecks bytes = true) {t : State} (serves : serve p (frameOf bytes) u = t) :
        exec (.frameReceived p) s = .next t := by
      rw [exec_frameReceived live complete, if_pos passes, ← serves]
    refine ⟨fun fails => ?_, fun passes started => ?_, fun passes unstarted => served passes (serve_early role unstarted _)⟩
    · rw [exec_frameReceived live complete, if_neg (by simp [fails])]
    · have serves := serve_of_started (s := u) started p (frameOf bytes)
      rw [if_neg role, port] at serves
      refine ⟨fun idle => served passes (serves.trans (if_pos idle)), fun busy empty => ?_, fun busy full => ?_⟩
      · refine served passes ((serves.trans (if_neg busy)).trans ((if_pos empty).trans ?_))
        exact State.withPort_withPort ..
      · refine served passes ((serves.trans (if_neg busy)).trans ((if_neg full).trans ?_))
        exact State.withPort_withPort ..
  · intro u
    refine ⟨fun empty => ?_, fun f full => ?_⟩
    · rw [exec_responseSent live sending sent, responseEnds]
      simp only [show (s.port p).buffer = none from empty]
      rfl
    · rw [exec_responseSent live sending sent, responseEnds]
      simp only [show (s.port p).buffer = some f from full]
      rfl

/-! ### Codes, roles and lengths (R175, 11.1) -/

/-- A code that is none of 11.1 names no command. -/
theorem commandOf_unlisted {code : Byte} (unlisted : commandCodes.contains code.toNat = false) : commandOf code = none := by
  unfold commandOf
  generalize code.toNat = n at unlisted
  split
  case h_23 => rfl
  all_goals exact absurd unlisted (by decide)

/-- What holds of the commands of a list of codes holds of the command that one of them names. -/
theorem commandOf_listed {α : Type} {listed : List (Nat × α)} {holds : CommandId → α → Bool}
    (all : (listed.all fun x => (commandOf (BitVec.ofNat 8 x.1)).any (holds · x.2)) = true) {code : Byte} {a : α}
    (mem : (code.toNat, a) ∈ listed) : ∃ c, commandOf code = some c ∧ holds c a = true := by
  have named := List.all_eq_true.mp all _ mem
  rwa [BitVec.ofNat_toNat, BitVec.setWidth_eq, Option.any_eq_true] at named

theorem roleAdmits_open {role : Role} (enabled : role ≠ .disabled) {c : CommandId} (every : maintenanceOnly c = false) :
    roleAdmits role c = true := by
  cases role with
  | disabled => exact absurd rfl enabled
  | maintenance => rfl
  | _ => simp only [roleAdmits, every, Bool.not_false]

theorem roleAdmits_denied {role : Role} (other : role ≠ .maintenance) {c : CommandId} (only : maintenanceOnly c = true) :
    roleAdmits role c = false := by
  cases role with
  | maintenance => exact absurd rfl other
  | disabled => rfl
  | _ => simp only [roleAdmits, only, Bool.not_true]

/-! ### The refusals, in order (R175) -/

section refusals
variable {p : PortId} {s : State} {f : Frame} {c : CommandId}

theorem dispatch_unknown (unnamed : commandOf f.code = none) : dispatch p f s = (s, ⟨.unknown, []⟩) := by
  rw [dispatch, unnamed]
  rfl

theorem dispatch_denied (named : commandOf f.code = some c) (denied : roleAdmits (s.port p).role c = false) :
    dispatch p f s = (s, ⟨.denied, []⟩) := by
  rw [dispatch, named]
  exact if_pos denied

theorem dispatch_badLength (named : commandOf f.code = some c) (admitted : roleAdmits (s.port p).role c = true) {n : Nat}
    (wants : requestLength c = some n) (other : f.payload.length ≠ n) : dispatch p f s = (s, ⟨.badLength, []⟩) := by
  have unfit : lengthFits c f.payload = false := by
    rw [lengthFits, wants]
    exact decide_eq_false other
  rw [dispatch, named]
  simp only [admitted, unfit, Bool.true_eq_false, if_false, if_true]
  rfl

/-- A port command taken at once is answered as its dispatch gives (R174, R176). -/
theorem exec_dispatched {i : Instr} (h : Taking p s) (row : portFrame i = some (p, f)) {t : State} {r : Reply}
    (leads : dispatch p f s = (t, r)) : exec i s = .next (answered p f.code f.tag r t) := by
  rw [exec_portFrame row, onLive_live h.1, frameArrives_taking h, leads]

end refusals

/-- Settles O56: a row is its frame, served by the transmitter and the buffer; and each refusal by the code's command. -/
theorem portCommandsWaitOrAreRefused : Obligations.PortCommandsWaitOrAreRefused := by
  refine ⟨fun s i p f live row => ?wait, fun s p code tag h unlisted => ?unknown, fun s i p f h other row mem => ?denied,
    fun s p f n h mem length => ?openLength, fun s p f n h mem length => ?anyLength⟩
  case wait =>
    intro x
    have arrives : exec i s = .next (frameArrives p f s) := (exec_portFrame row s).trans (onLive_live live _)
    refine ⟨fun disabled => ?_, fun enabled started busy => ?_⟩
    · rw [arrives, frameArrives, if_pos (show s.disabled p = true from decide_eq_true disabled)]
    · have serves : frameArrives p f s = if x.buffer = none then s.withPort p { x with buffer := some f }
          else s.withPort p { x with overruns := x.overruns + 1 } := by
        rw [frameArrives, if_neg (by simpa [State.disabled] using enabled), completeEarlier_started started,
          serve_of_started started, if_neg enabled, if_neg busy]
      rw [arrives, serves]
      exact ⟨fun empty => congrArg _ (if_pos empty), fun full => congrArg _ (if_neg full)⟩
  case unknown => exact exec_dispatched (f := ⟨code, tag, []⟩) h rfl (dispatch_unknown (commandOf_unlisted unlisted))
  case denied =>
    have listed : (f.code.toNat, ()) ∈
        [0x03, 0x22, 0x23, 0x24, 0x30, 0x31, 0x32, 0x33, 0x34].map fun code => (code, ()) := List.mem_map_of_mem mem
    obtain ⟨c, named, only⟩ := commandOf_listed (holds := fun c _ => maintenanceOnly c) (by decide) listed
    exact exec_dispatched h row (dispatch_denied named (roleAdmits_denied other only))
  case openLength =>
    obtain ⟨c, named, holds⟩ :=
      commandOf_listed (holds := fun c n => !maintenanceOnly c && decide (requestLength c = some n)) (by decide) mem
    simp only [Bool.and_eq_true, Bool.not_eq_true', decide_eq_true_eq] at holds
    obtain ⟨every, wants⟩ := holds
    obtain ⟨-, -, enabled, -⟩ := h
    exact dispatch_badLength named (roleAdmits_open enabled every) wants length
  case anyLength =>
    obtain ⟨c, named, wants⟩ := commandOf_listed (holds := fun c n => decide (requestLength c = some n)) (by decide) mem
    have admitted : roleAdmits (s.port p).role c = true := by rw [h.2]; rfl
    exact dispatch_badLength named admitted (of_decide_eq_true wants) length

end Sys2Proof.Machine
end

section
/-! Notices: NOTICES, ACK_NOTICES and SET_NOTICE (R182, R183, R185): O57; the notice line and its timers (R170, R184, R185,
R188): O58. -/

namespace Sys2Proof.Machine

-- Elaborated in turn: side by side, the proofs of this section bring the compile to its memory limit.
set_option Elab.async false

/-! ### Fields of the answers (R182, R189) -/

theorem noticeByte_eq (f : NoticeSet) : noticeByte f = [f.setWidth 8] := by
  rw [noticeByte, bytesLE, bytesLE, BitVec.ofNat_toNat]

/-- The highest cause is the lowest bit that is set (R182). -/
theorem highestCause_some {f : NoticeSet} {i : Nat} (highest : highestCause f = some i) :
    i < 5 ∧ f.getLsbD i = true ∧ ∀ j, j < i → f.getLsbD j = false := by
  have first : (List.range 5).find? (fun i => f.getLsbD i) = some i := highest
  rw [List.find?_range_eq_some] at first
  obtain ⟨set, inside, below⟩ := first
  exact ⟨List.mem_range.mp inside, set, fun j less => by simpa using below j less⟩

theorem highestCause_none {f : NoticeSet} (none_set : highestCause f = none) : f = 0 := by
  have unset : (List.range 5).find? (fun i => f.getLsbD i) = none := none_set
  rw [List.find?_range_eq_none] at unset
  exact BitVec.eq_of_getLsbD_eq fun i inside => by simpa using unset i inside

/-- The cause's byte: the highest cause's position, FFh where none is pending (R182, R189). -/
theorem causeByte_eq {f : NoticeSet} {cause : Byte}
    (lowest : ∀ i, i < 5 → f.getLsbD i = true → (∀ j, j < i → f.getLsbD j = false) → cause = BitVec.ofNat 8 i)
    (absent : f = 0 → cause = 0xFF#8) : causeByte f = [cause] := by
  cases highest : highestCause f with
  | none =>
    rw [causeByte, highest, absent (highestCause_none highest)]
    rfl
  | some i =>
    obtain ⟨inside, set, below⟩ := highestCause_some highest
    rw [causeByte, highest, lowest i inside set below]
    rfl

/-! ### ACK_NOTICES (R182) -/

theorem doAckNotices_range {b : Byte} (outside : 32 ≤ b.toNat) (p : PortId) (s : State) :
    doAckNotices p [b] s = (s, ⟨.range, []⟩) := if_pos (show 32 ≤ byteAt [b] 0 from outside)

/-- The flags named are cleared, the line following (R182, R185). -/
theorem doAckNotices_ok {b : Byte} (inside : b.toNat < 32) (p : PortId) (s : State) : doAckNotices p [b] s =
    (s.withPort p (noticed s.now ((s.port p).flags &&& ~~~(b.setWidth 5)) (s.port p)),
      ⟨.ok, [((s.port p).flags &&& ~~~(b.setWidth 5)).setWidth 8]⟩) := by
  have named : BitVec.ofNat 5 (byteAt [b] 0) = b.setWidth 5 := BitVec.ofNat_toNat ..
  have within : ¬ 32 ≤ byteAt [b] 0 := Nat.not_le.mpr inside
  rw [doAckNotices, if_neg within, named, replaceFlags_eq_noticed]
  exact congrArg (fun flags => (_, (⟨.ok, flags⟩ : Reply))) (noticeByte_eq _)

/-! ### SET_NOTICE (R183, R185) -/

theorem lineModeOf_none {n : Nat} (outside : 3 ≤ n) : lineModeOf n = none := by
  unfold lineModeOf
  split
  case h_4 => rfl
  all_goals omega

theorem lineModeOf_lineModeCode (m : LineMode) : lineModeOf (lineModeCode m) = some m := by cases m <;> rfl

/-- The three settings replaced, by the unmasked set before and after (R183, R185). -/
theorem replaceNotice_eq (now : Time) (mask : NoticeSet) (m : LineMode) (on : Bool) (x : Port) :
    replaceNotice now mask m on x = { x with
      mask := mask, lineMode := m, reminder := on
      pulse := if m ≠ .pulse then none
        else if x.flags &&& ~~~x.mask = 0 ∧ x.flags &&& ~~~mask ≠ 0 then some (later now 16) else x.pulse
      reminderExpiry := if m = .pulse ∧ on = true ∧ x.flags &&& ~~~mask ≠ 0 then some (later now 8192) else none } := by
  unfold replaceNotice
  by_cases pulse : m = .pulse
  · by_cases after : x.flags &&& ~~~mask = 0#5
    · simp [pulse, Port.unmasked, after]
    · by_cases before : x.flags &&& ~~~x.mask = 0#5
      · cases on <;> simp [pulse, Port.unmasked, after, before, startPulse]
      · simp [pulse, Port.unmasked, after, before]
  · simp [pulse]

theorem doSetNotice_range {mask mode reminder : Byte}
    (outside : 32 ≤ mask.toNat ∨ 3 ≤ mode.toNat ∨ 2 ≤ reminder.toNat) (p : PortId) (s : State) :
    doSetNotice p [mask, mode, reminder] s = (s, ⟨.range, []⟩) := by
  rw [doSetNotice]
  cases named : lineModeOf (byteAt [mask, mode, reminder] 1) with
  | none => rfl
  | some m =>
    have known : ¬ 3 ≤ mode.toNat := fun outside => by
      have unnamed : lineModeOf (byteAt [mask, mode, reminder] 1) = none := lineModeOf_none outside
      rw [unnamed] at named
      cases named
    have refused : 32 ≤ byteAt [mask, mode, reminder] 0 ∨ 1 < byteAt [mask, mode, reminder] 2 :=
      outside.imp_right (·.resolve_left known)
    exact if_pos refused

theorem doSetNotice_ok {mask mode reminder : Byte} {m : LineMode} (mask_fits : mask.toNat < 32)
    (named : lineModeCode m = mode.toNat) (on_or_off : reminder.toNat < 2) (p : PortId) (s : State) :
    doSetNotice p [mask, mode, reminder] s =
      (s.withPort p (replaceNotice s.now (mask.setWidth 5) m (decide (reminder.toNat = 1)) (s.port p)),
        ⟨.ok, [mask, mode, reminder, (s.port p).flags.setWidth 8]⟩) := by
  have line : lineModeOf (byteAt [mask, mode, reminder] 1) = some m := by
    rw [← lineModeOf_lineModeCode m, named]
    rfl
  have within : ¬ (32 ≤ byteAt [mask, mode, reminder] 0 ∨ 1 < byteAt [mask, mode, reminder] 2) := by
    show ¬ (32 ≤ mask.toNat ∨ 1 < reminder.toNat)
    omega
  have mask_eq : BitVec.ofNat 5 (byteAt [mask, mode, reminder] 0) = mask.setWidth 5 := BitVec.ofNat_toNat ..
  have mask_byte : (mask.setWidth 5).setWidth 8 = mask := BitVec.eq_of_toNat_eq (by simp; omega)
  have mode_byte : choiceByte (lineModeCode m) = [mode] := by rw [named, choiceByte, BitVec.ofNat_toNat, BitVec.setWidth_eq]
  have reminder_byte : boolByte (decide (reminder.toNat = 1)) = [reminder] := by
    rcases Nat.lt_succ_iff_lt_or_eq.mp on_or_off with off | on
    · obtain rfl : reminder = 0#8 := BitVec.eq_of_toNat_eq (Nat.lt_one_iff.mp off)
      rfl
    · obtain rfl : reminder = 1#8 := BitVec.eq_of_toNat_eq on
      rfl
  rw [doSetNotice, line]
  simp only [if_neg within, mask_eq, replaceNotice_eq, noticeByte_eq, mask_byte, mode_byte]
  exact congrArg (fun byte => (_, (⟨.ok, [mask] ++ [mode] ++ byte ++ [(s.port p).flags.setWidth 8]⟩ : Reply))) reminder_byte

/-- Settles O57: each command taken at once, by its operands. -/
theorem noticeCommands : Obligations.NoticeCommands := by
  intro s p tag h x
  refine ⟨fun cause lowest absent => ?notices, fun b => ⟨fun outside => ?ackRange, fun inside => ?ack⟩,
    fun mask mode reminder => ⟨fun outside => ?setRange, fun m mask_fits named on_or_off => ?set⟩⟩
  case notices =>
    have reads : doNotices p s =
        (s, ⟨.ok, [x.flags.setWidth 8, x.mask.setWidth 8, (x.flags &&& ~~~x.mask).setWidth 8, cause]⟩) := by
      rw [doNotices, noticeByte_eq, noticeByte_eq, noticeByte_eq, causeByte_eq lowest absent]
      rfl
    exact answers_open (f := ⟨0x04, tag, []⟩) (c := .notices) rfl rfl reads h rfl
  case ackRange =>
    exact answers_open (f := ⟨0x05, tag, [b]⟩) (c := .ackNotices) rfl rfl (doAckNotices_range outside p s) h rfl
  case ack => exact answers_open (f := ⟨0x05, tag, [b]⟩) (c := .ackNotices) rfl rfl (doAckNotices_ok inside p s) h rfl
  case setRange =>
    exact answers_open (f := ⟨0x06, tag, [mask, mode, reminder]⟩) (c := .setNotice) rfl rfl
      (doSetNotice_range outside p s) h rfl
  case set =>
    have sets := answers_open (f := ⟨0x06, tag, [mask, mode, reminder]⟩) (c := .setNotice) rfl rfl
      (doSetNotice_ok mask_fits named on_or_off p s) h rfl
    rw [replaceNotice_eq] at sets
    exact sets

/-! ### The line (R170, R184, R185, R188) -/

theorem noticeLine_off {s : State} {p : PortId} (off : (s.port p).role = .disabled ∨ s.clock.started = false) :
    noticeLine s p = true := by
  have high : s.disabled p = true ∨ s.clock.started = false := off.imp_left decide_eq_true
  rw [noticeLine, if_pos high]

/-- At a port that is not DISABLED, from the first sample tick on, the line goes by its mode (R184). -/
theorem noticeLine_on {s : State} {p : PortId} (enabled : (s.port p).role ≠ .disabled) (started : s.clock.started = true) :
    ((s.port p).lineMode = .levelLow → noticeLine s p = decide ((s.port p).unmasked = 0)) ∧
    ((s.port p).lineMode = .levelHigh → noticeLine s p = decide ((s.port p).unmasked ≠ 0)) ∧
    ((s.port p).lineMode = .pulse → noticeLine s p = (s.port p).pulse.isNone) := by
  have on : ¬ (s.disabled p = true ∨ s.clock.started = false) := by simp [State.disabled, enabled, started]
  rw [noticeLine, if_neg on]
  exact ⟨fun mode => by simp only [mode], fun mode => by simp only [mode], fun mode => by simp only [mode]⟩

/-- Settles O58: the line by its mode, and each timer by its time. -/
theorem noticeLineAndTimers : Obligations.NoticeLineAndTimers := by
  intro s p x set
  refine ⟨noticeLine_off, noticeLine_on, fun t live ends => ?pulse, fun t live expiry on => ?reminder⟩
  case pulse =>
    have due : pulseDue s p = reached s.now t := by rw [pulseDue, ends]
    have event : exec (.noticePulseEnd p) s = .next (if reached s.now t then pulseEnds p s else s) := by
      rw [← due]
      exact onLive_live live _
    exact ⟨fun now => by rw [event, now]; rfl, fun early => by rw [event, early]; rfl⟩
  case reminder =>
    have due : reminderDue s p = (reached s.now t && decide (set ≠ 0)) := by rw [reminderDue, expiry]; rfl
    have event : exec (.reminderExpiry p) s = .next (if reminderDue s p then reminderExpires p s else s) := onLive_live live _
    have pulses : startPulse s.now x = { x with pulse := some (s.now + 16#32), reminderExpiry := some (s.now + 8192#32) } := by
      rw [startPulse, on]
      rfl
    refine ⟨fun now pending => ?_, fun early_or_empty => ?_⟩
    · rw [event, due, now, decide_eq_true pending, ← pulses]
      rfl
    · have waits : reminderDue s p = false := by
        rw [due]
        rcases early_or_empty with early | empty <;> simp [*]
      rw [event, waits]
      rfl

end Sys2Proof.Machine
end

section
/-! The layout of the STATUS snapshot (R177, R189): O60. -/

namespace Sys2Proof.Machine

-- Elaborated in turn: side by side, the proofs of this section bring the compile to its memory limit.
set_option Elab.async false

/-! ### A block of a payload -/

/-- A payload holds a block of bytes at an offset. -/
def HoldsAt (b : List Byte) (offset : Nat) (block : List Byte) : Prop :=
  ∃ before after, b = before ++ (block ++ after) ∧ before.length = offset

/-- Of blocks in order each stands behind those before it. -/
theorem holdsAt_flatten {blocks : List (List Byte)} {i : Nat} {block : List Byte} (place : blocks[i]? = some block) :
    HoldsAt blocks.flatten ((blocks.map List.length).take i).sum block := by
  obtain ⟨inside, rfl⟩ := List.getElem?_eq_some_iff.mp place
  refine ⟨(blocks.take i).flatten, (blocks.drop (i + 1)).flatten, ?_, ?_⟩
  · rw [← List.flatten_cons, ← List.drop_eq_getElem_cons inside, ← List.flatten_append, List.take_append_drop]
  · rw [List.length_flatten, List.map_take]

/-- Of blocks of one length each stands behind so many lengths. -/
theorem holdsAt_flatMap {α : Type} {f : α → List Byte} {n : Nat} (length : ∀ a, (f a).length = n) {as : List α} {i : Nat}
    {a : α} (place : as[i]? = some a) : HoldsAt (as.flatMap f) (n * i) (f a) := by
  have holds := holdsAt_flatten (blocks := as.map f) (i := i) (block := f a) (by rw [List.getElem?_map, place]; rfl)
  have lengths : (as.map f).map List.length = List.replicate as.length n := by
    rw [List.map_map]
    exact List.map_eq_replicate_iff.mpr fun a _ => length a
  have inside : i ≤ as.length := (List.getElem?_eq_some_iff.mp place).1.le
  rwa [lengths, List.take_replicate, min_eq_left inside, List.sum_replicate, smul_eq_mul, mul_comm] at holds

/-- A block within a block. -/
theorem HoldsAt.within {b block inner : List Byte} {offset place : Nat} (outer : HoldsAt b offset block)
    (holds : HoldsAt block place inner) : HoldsAt b (offset + place) inner := by
  obtain ⟨before, after, rfl, rfl⟩ := outer
  obtain ⟨front, back, rfl, rfl⟩ := holds
  exact ⟨before ++ front, back ++ after, by simp only [List.append_assoc], List.length_append⟩

/-- A field of a block reads back at its place (R189). -/
theorem HoldsAt.field {b : List Byte} {offset : Nat} {fs : List Field} (holds : HoldsAt b offset (layout fs)) (fit : Fit fs)
    {widths : List Nat} (widths_eq : fs.map Prod.fst = widths) (i : Nat) {w v place : Nat} (field : fs[i]? = some (w, v))
    (place_eq : offset + (widths.take i).sum = place) : numberAt b place w = v := by
  obtain ⟨before, after, rfl, rfl⟩ := holds
  rw [← place_eq, numberAt_append_right]
  exact field_at fit widths_eq rfl i field rfl

/-! ### The fields of each group (R177) -/

theorem boolByte_eq (b : Bool) : boolByte b = bytesLE 1 b.toNat := by cases b <;> rfl

def clockFields (s : State) : List Field := [(4, s.siteClock.seconds.toNat), (2, s.siteClock.tick)]

def laneFields (s : State) (l : Lane) : List Field :=
  let x := s.ptu.lanes.get l
  [(1, modeCode (s.mode l)), (1, contextCode (s.context l).state), (1, (s.isOccupied l).toNat),
   (1, (s.cle.triggers.get l).isSome.toNat), (2, signed16 x.temp), (1, x.substituted.toNat), (2, x.target), (2, x.applied)]

theorem laneStatus_eq (s : State) (l : Lane) : laneStatus s l = layout (laneFields s l) := by
  simp [laneStatus, laneFields, choiceByte_eq, boolByte_eq, tempBytes]

def channelFields (x : Channel) : List Field :=
  [(1, channelCode x.state), (1, healthCode x.health), (2, x.ratio.getD 0)]

theorem channelStatus_eq (s : State) (c : ChannelId) : channelStatus s c = layout (channelFields (s.channel c)) := by
  simp [channelStatus, channelFields, choiceByte_eq]

def probeFields (x : Probe) : List Field := [(1, probeCode x.state), (2, (x.filtered.map signed16).getD 32768)]

theorem probeStatus_eq (s : State) (i : ProbeId) : probeStatus s i = layout (probeFields (s.ptu.probes.get i)) := by
  cases filtered : (s.ptu.probes.get i).filtered <;>
    simp [probeStatus, probeFields, filtered, choiceByte_eq, optTempBytes, tempBytes]

def calibrationFields (x : Cc) : List Field :=
  [(4, x.revision.toNat), (1, claimCode x.claim), (1, x.waiting.toNat), (1, x.persist.isSome.toNat),
   (1, x.restartPending.toNat), (1, storeCode x.storeState)]

theorem calibrationStatus_eq (s : State) : calibrationStatus s = layout (calibrationFields s.cc) := by
  simp [calibrationStatus, calibrationFields, choiceByte_eq, boolByte_eq]

/-- The fields of the last test result, its absent parts coded by R189 (notes/assumptions/13.md). -/
def resultFields : Option TestResult → List Field
  | none =>
    [(1, 255), (1, 255), (1, 255), (4, 4294967295), (2, 65535), (2, 0), (2, 0), (2, 0), (2, 0), (4, 0)]
  | some y =>
    let ratio (i : Nat) : Nat := (y.ratios.getD []).getD i 0
    [(1, laneNumber y.lane), (1, y.pattern), (1, outcomeCode y.outcome), (4, y.time.seconds.toNat), (2, y.time.tick),
     (2, ratio 0), (2, ratio 1), (2, ratio 2), (2, ratio 3), (4, (y.record.map (·.toNat)).getD 0)]

theorem resultBytes_eq {x : Option TestResult}
    (four : ∀ y, x = some y → ∀ ratios, y.ratios = some ratios → ratios.length = 4) :
    resultBytes x = layout (resultFields x) := by
  cases x with
  | none => rfl
  | some y =>
    have ratios : (y.ratios.getD [0, 0, 0, 0]).flatMap (bytesLE 2) =
        layout ((List.range 4).map fun i => (2, (y.ratios.getD []).getD i 0)) := by
      cases present : y.ratios with
      | none => rfl
      | some ratios =>
        obtain ⟨a, b, c, d, rfl⟩ := List.length_eq_four.mp (four y rfl ratios present)
        rfl
    rw [resultBytes, ratios]
    simp [resultFields, stampBytes, choiceByte_eq, List.range_succ]

def testFields (x : Ltg) : List Field := (1, (x.test.map fun t => laneNumber t.lane).getD 255) :: resultFields x.last

theorem testStatus_eq {s : State}
    (four : ∀ y, s.ltg.last = some y → ∀ ratios, y.ratios = some ratios → ratios.length = 4) :
    testStatus s = layout (testFields s.ltg) := by
  rw [testStatus, resultBytes_eq four, optLE_eq, State.testLane, Option.map_map]
  rfl

def ringFields (x : Rr) : List Field := [(4, x.oldest.toNat), (4, x.next.toNat)]

def portFields (x : Port) (q : RingPort) : List Field :=
  [(1, roleCode x.role), (1, rateCode x.rate), (4, q.cursor.toNat), (4, q.recordLoss.toNat), (4, q.alertLoss.toNat),
   (1, q.alerts.length), (1, q.laneMask.toNat), (4, q.classMask.toNat), (1, formatCode q.format),
   (1, subscriptionCode q.subscription), (1, tableCode x.pointer.table), (1, x.pointer.index),
   (1, stepCode x.pointer.step), (4, x.frameErrors.toNat), (4, x.overruns.toNat), (1, x.flags.toNat), (1, x.mask.toNat),
   (1, lineModeCode x.lineMode), (1, x.reminder.toNat)]

theorem portStatus_eq (s : State) (p : PortId) : portStatus s p = layout (portFields (s.port p) (s.ringPort p)) := by
  simp [portStatus, portFields, choiceByte_eq, boolByte_eq, noticeByte, filterBytes, pointerBytes]

/-! ### The groups in order (R177) -/

/-- The groups of the snapshot: the clock, the lanes, the channels, the probes, the calibration, the test, the ring, and
the asking port. -/
def statusGroups (s : State) (p : PortId) : List (List Byte) :=
  [layout (clockFields s), Ix4.all.flatMap fun l => layout (laneFields s l),
   ChannelId.all.flatMap fun c => layout (channelFields (s.channel c)),
   Ix4.all.flatMap fun i => layout (probeFields (s.ptu.probes.get i)), layout (calibrationFields s.cc),
   layout (testFields s.ltg), layout (ringFields s.rr), layout (portFields (s.port p) (s.ringPort p))]

theorem statusBytes_eq {s : State}
    (four : ∀ y, s.ltg.last = some y → ∀ ratios, y.ratios = some ratios → ratios.length = 4) (p : PortId) :
    statusBytes s p = (statusGroups s p).flatten := by
  have lanes : laneStatus s = fun l => layout (laneFields s l) := funext (laneStatus_eq s)
  have channels : channelStatus s = fun c => layout (channelFields (s.channel c)) := funext (channelStatus_eq s)
  have probes : probeStatus s = fun i => layout (probeFields (s.ptu.probes.get i)) := funext (probeStatus_eq s)
  rw [statusBytes, lanes, channels, probes, calibrationStatus_eq, testStatus_eq four, portStatus_eq]
  simp [statusGroups, clockFields, stampBytes, ringStatus, ringFields]

theorem testFields_widths (x : Ltg) : (testFields x).map Prod.fst = [1, 1, 1, 1, 4, 2, 2, 2, 2, 2, 4] := by
  obtain ⟨modes, test, last⟩ := x
  cases last <;> rfl

theorem statusGroups_lengths (s : State) (p : PortId) :
    (statusGroups s p).map List.length = [6, 44, 64, 12, 9, 22, 8, 37] := by
  have lanes : (Ix4.all.flatMap fun l => layout (laneFields s l)).length = 44 := by
    simp [laneFields, Ix4.all]
  have channels : (ChannelId.all.flatMap fun c => layout (channelFields (s.channel c))).length = 64 := by
    simp [channelFields, ChannelId.all, Ix4.all, Ix4.channels]
  have probes : (Ix4.all.flatMap fun i => layout (probeFields (s.ptu.probes.get i))).length = 12 := by
    simp [probeFields, Ix4.all]
  have test : (layout (testFields s.ltg)).length = 22 := by rw [length_layout, testFields_widths]; rfl
  simp only [statusGroups, List.map_cons, List.map_nil, lanes, channels, probes, test]
  rfl

/-- Each group of the snapshot stands at its offset. -/
theorem statusGroups_holdsAt (s : State) (p : PortId) (i : Nat) {block : List Byte} {offset : Nat}
    (place : (statusGroups s p)[i]? = some block)
    (offset_eq : (([6, 44, 64, 12, 9, 22, 8, 37] : List Nat).take i).sum = offset) :
    HoldsAt (statusGroups s p).flatten offset block := by
  rw [← offset_eq, ← statusGroups_lengths s p]
  exact holdsAt_flatten place

/-- Each lane's block stands in its order within the lanes' group. -/
theorem laneFields_holdsAt (s : State) (p : PortId) (l : Lane) :
    HoldsAt (statusGroups s p).flatten (6 + 11 * (laneNumber l - 1)) (layout (laneFields s l)) := by
  have place : Ix4.all[laneNumber l - 1]? = some l := by cases l <;> rfl
  exact (statusGroups_holdsAt s p 1 rfl rfl).within (holdsAt_flatMap (fun _ => by simp [laneFields]) place)

theorem channelFields_holdsAt (s : State) (p : PortId) (c : ChannelId) :
    HoldsAt (statusGroups s p).flatten (50 + 4 * channelIndex c) (layout (channelFields (s.channel c))) := by
  have place : ChannelId.all[channelIndex c]? = some c := by
    obtain ⟨l, r, h⟩ := c
    cases l <;> cases r <;> cases h <;> rfl
  exact (statusGroups_holdsAt s p 2 rfl rfl).within (holdsAt_flatMap (fun _ => by simp [channelFields]) place)

theorem probeFields_holdsAt (s : State) (p : PortId) (i : ProbeId) :
    HoldsAt (statusGroups s p).flatten (114 + 3 * (laneNumber i - 1)) (layout (probeFields (s.ptu.probes.get i))) := by
  have place : Ix4.all[laneNumber i - 1]? = some i := by cases i <;> rfl
  exact (statusGroups_holdsAt s p 3 rfl rfl).within (holdsAt_flatMap (fun _ => by simp [probeFields]) place)

/-! ### Every number fits -/

theorem fit_clock {s : State} (tick : s.clock.tick < 16384) : Fit (clockFields s) := by
  have seconds := s.siteClock.seconds.isLt
  have siteTick : s.siteClock.tick < 16384 := tick
  simp only [clockFields, fit_cons, fit_nil, and_true]
  refine ⟨?_, ?_⟩ <;> omega

theorem fit_lane {s : State} {l : Lane} (target : (s.ptu.lanes.get l).target ≤ 32767)
    (applied : (s.ptu.lanes.get l).applied ≤ 32767) : Fit (laneFields s l) := by
  have mode : modeCode (s.mode l) ≤ 2 := by cases s.mode l <;> decide
  have context : contextCode (s.context l).state ≤ 2 := by cases (s.context l).state <;> decide
  have occupied := Bool.toNat_le (s.isOccupied l)
  have trigger := Bool.toNat_le (s.cle.triggers.get l).isSome
  have temp := signed16_lt (s.ptu.lanes.get l).temp
  have substituted := Bool.toNat_le (s.ptu.lanes.get l).substituted
  simp only [laneFields, fit_cons, fit_nil, and_true]
  refine ⟨?_, ?_, ?_, ?_, ?_, ?_, ?_, ?_⟩ <;> omega

theorem fit_channel {x : Channel} (ratio : ∀ y, x.ratio = some y → y ≤ 65535) : Fit (channelFields x) := by
  have state : channelCode x.state ≤ 4 := by cases x.state <;> decide
  have health : healthCode x.health ≤ 2 := by cases x.health <;> decide
  have measured : x.ratio.getD 0 ≤ 65535 := by
    cases present : x.ratio with
    | none => exact Nat.zero_le _
    | some y => exact ratio y present
  simp only [channelFields, fit_cons, fit_nil, and_true]
  refine ⟨?_, ?_, ?_⟩ <;> omega

theorem fit_probe (x : Probe) : Fit (probeFields x) := by
  have state : probeCode x.state ≤ 3 := by cases x.state <;> decide
  have filtered : (x.filtered.map signed16).getD 32768 < 65536 := by
    cases x.filtered with
    | none => decide
    | some y => exact signed16_lt y
  simp only [probeFields, fit_cons, fit_nil, and_true]
  refine ⟨?_, ?_⟩ <;> omega

theorem fit_calibration (x : Cc) : Fit (calibrationFields x) := by
  have revision := x.revision.isLt
  have claim : claimCode x.claim ≤ 3 := by
    rcases x.claim with _ | q
    · decide
    · cases q <;> decide
  have waiting := Bool.toNat_le x.waiting
  have persist := Bool.toNat_le x.persist.isSome
  have restart := Bool.toNat_le x.restartPending
  have store : storeCode x.storeState ≤ 2 := by cases x.storeState <;> decide
  simp only [calibrationFields, fit_cons, fit_nil, and_true]
  refine ⟨?_, ?_, ?_, ?_, ?_, ?_⟩ <;> omega

theorem fit_result {x : Option TestResult} (ranges : ∀ y, x = some y → y.pattern ≤ 3 ∧ y.time.tick < 16384 ∧
    ∀ ratios, y.ratios = some ratios → ratios.length = 4 ∧ ∀ v ∈ ratios, v ≤ 65535) : Fit (resultFields x) := by
  cases x with
  | none => simp [Fit, resultFields]
  | some y =>
    obtain ⟨pattern, tick, ratios⟩ := ranges y rfl
    have lane := laneNumber_le y.lane
    have outcome : outcomeCode y.outcome ≤ 2 := by cases y.outcome <;> decide
    have seconds := y.time.seconds.isLt
    have ratio (i : Nat) : (y.ratios.getD []).getD i 0 ≤ 65535 := by
      cases present : y.ratios with
      | none => exact Nat.zero_le _
      | some vs =>
        obtain ⟨-, each⟩ := ratios vs present
        rw [Option.getD_some, List.getD_eq_getElem?_getD]
        cases place : vs[i]? with
        | none => exact Nat.zero_le _
        | some v => exact each v (List.mem_of_getElem? place)
    have first := ratio 0
    have second := ratio 1
    have third := ratio 2
    have fourth := ratio 3
    have record : (y.record.map (·.toNat)).getD 0 < 4294967296 := by
      cases y.record with
      | none => decide
      | some q => exact q.isLt
    simp only [resultFields, fit_cons, fit_nil, and_true]
    refine ⟨?_, ?_, ?_, ?_, ?_, ?_, ?_, ?_, ?_, ?_⟩ <;> omega

theorem fit_test {x : Ltg} (result : Fit (resultFields x.last)) : Fit (testFields x) := by
  have lane : (x.test.map fun t => laneNumber t.lane).getD 255 ≤ 255 := by
    cases x.test with
    | none => exact le_rfl
    | some t => exact (laneNumber_le t.lane).trans (by decide)
  exact fit_cons.mpr ⟨by dsimp only; omega, result⟩

theorem fit_ring (x : Rr) : Fit (ringFields x) := by
  have oldest := x.oldest.isLt
  have next := x.next.isLt
  simp only [ringFields, fit_cons, fit_nil, and_true]
  refine ⟨?_, ?_⟩ <;> omega

theorem fit_port {x : Port} {q : RingPort} (alerts : q.alerts.length ≤ 16) (index : x.pointer.index ≤ 32) :
    Fit (portFields x q) := by
  have role : roleCode x.role ≤ 3 := by cases x.role <;> decide
  have rate : rateCode x.rate ≤ 3 := by cases x.rate <;> decide
  have cursor := q.cursor.isLt
  have recordLoss := q.recordLoss.isLt
  have alertLoss := q.alertLoss.isLt
  have laneMask := q.laneMask.isLt
  have classMask := q.classMask.isLt
  have format : formatCode q.format ≤ 1 := by cases q.format <;> decide
  have subscription : subscriptionCode q.subscription ≤ 2 := by cases q.subscription <;> decide
  have table : tableCode x.pointer.table ≤ 8 := by cases x.pointer.table <;> decide
  have step : stepCode x.pointer.step ≤ 1 := by cases x.pointer.step <;> decide
  have frameErrors := x.frameErrors.isLt
  have overruns := x.overruns.isLt
  have flags := x.flags.isLt
  have mask := x.mask.isLt
  have lineMode : lineModeCode x.lineMode ≤ 2 := by cases x.lineMode <;> decide
  have reminder := Bool.toNat_le x.reminder
  simp only [portFields, fit_cons, fit_nil, and_true]
  refine ⟨?_, ?_, ?_, ?_, ?_, ?_, ?_, ?_, ?_, ?_, ?_, ?_, ?_, ?_, ?_, ?_, ?_, ?_, ?_⟩ <;> omega

/-! ### The snapshot -/

/-- A temperature's code read as a number (R189). -/
theorem cast_signed16 {t : Int} (low : -640 ≤ t) (high : t ≤ 1360) :
    (signed16 t : Int) = if t < 0 then t + 65536 else t := by
  unfold signed16
  split <;> omega

/-- Settles O60: the snapshot is its groups in order, each a layout of fields that read back at their offsets. -/
theorem statusIsCoded : Obligations.StatusIsCoded := by
  intro s p tick lanes ratios probes last alerts index b n flag signed
  have four (y : TestResult) (result : s.ltg.last = some y) (vs : List Nat) (present : y.ratios = some vs) :
      vs.length = 4 := by
    obtain ⟨-, -, each⟩ := last y result
    exact (each vs present).1
  have bytes : b = (statusGroups s p).flatten := statusBytes_eq four p
  have holds (i : Nat) {block : List Byte} {offset : Nat} (place : (statusGroups s p)[i]? = some block)
      (offset_eq : (([6, 44, 64, 12, 9, 22, 8, 37] : List Nat).take i).sum = offset) : HoldsAt b offset block := by
    rw [bytes]
    exact statusGroups_holdsAt s p i place offset_eq
  have clock := (holds 0 rfl rfl).field (fit_clock tick) (widths := [4, 2]) rfl
  have calibration := (holds 4 rfl rfl).field (fit_calibration s.cc) (widths := [4, 1, 1, 1, 1, 1]) rfl
  have test := (holds 5 rfl rfl).field (fit_test (fit_result last)) (testFields_widths s.ltg)
  have ring := (holds 6 rfl rfl).field (fit_ring s.rr) (widths := [4, 4]) rfl
  have port := (holds 7 rfl rfl).field (fit_port alerts index)
    (widths := [1, 1, 4, 4, 4, 1, 1, 4, 1, 1, 1, 1, 1, 4, 4, 1, 1, 1, 1]) rfl
  have at_bool {place : Nat} {y : Bool} (reads : n place 1 = y.toNat) : n place 1 = flag y :=
    reads.trans (by cases y <;> rfl)
  refine ⟨?length, clock 0 rfl rfl, clock 1 rfl rfl, fun l => ?lane, fun c => ?channel, fun i => ?probe,
    calibration 0 rfl rfl, calibration 1 rfl rfl, at_bool (calibration 2 rfl rfl), at_bool (calibration 3 rfl rfl),
    at_bool (calibration 4 rfl rfl), calibration 5 rfl rfl, ?testLane, fun absent => ?noResult, fun y result => ?result,
    ring 0 rfl rfl, ring 1 rfl rfl, port 0 rfl rfl, port 1 rfl rfl, port 2 rfl rfl, port 3 rfl rfl, port 4 rfl rfl,
    port 5 rfl rfl, port 6 rfl rfl, port 7 rfl rfl, port 8 rfl rfl, port 9 rfl rfl, port 10 rfl rfl, port 11 rfl rfl,
    port 12 rfl rfl, port 13 rfl rfl, port 14 rfl rfl, port 15 rfl rfl, port 16 rfl rfl, port 17 rfl rfl,
    at_bool (port 18 rfl rfl)⟩
  case length =>
    rw [bytes, List.length_flatten, statusGroups_lengths]
    rfl
  case lane =>
    obtain ⟨target, applied, low, high⟩ := lanes l
    have block : HoldsAt b (6 + 11 * (laneNumber l - 1)) (layout (laneFields s l)) := bytes ▸ laneFields_holdsAt s p l
    have field := block.field (fit_lane target applied) (widths := [1, 1, 1, 1, 2, 1, 2, 2]) rfl
    exact ⟨field 0 rfl rfl, field 1 rfl rfl, at_bool (field 2 rfl rfl), at_bool (field 3 rfl rfl),
      (congrArg Nat.cast (field 4 rfl rfl)).trans (cast_signed16 low high), at_bool (field 5 rfl rfl), field 6 rfl rfl,
      field 7 rfl rfl⟩
  case channel =>
    have block : HoldsAt b (50 + 4 * channelIndex c) (layout (channelFields (s.channel c))) :=
      bytes ▸ channelFields_holdsAt s p c
    have field := block.field (fit_channel (ratios c)) (widths := [1, 1, 2]) rfl
    exact ⟨field 0 rfl rfl, field 1 rfl rfl, field 2 rfl rfl⟩
  case probe =>
    have block : HoldsAt b (114 + 3 * (laneNumber i - 1)) (layout (probeFields (s.ptu.probes.get i))) :=
      bytes ▸ probeFields_holdsAt s p i
    have field := block.field (fit_probe _) (widths := [1, 2]) rfl
    refine ⟨field 0 rfl rfl, (congrArg Nat.cast (field 1 rfl rfl)).trans ?_⟩
    cases filtered : (s.ptu.probes.get i).filtered with
    | none => rfl
    | some y =>
      obtain ⟨low, high⟩ := probes i y filtered
      exact cast_signed16 low high
  case testLane =>
    refine (test 0 rfl rfl).trans ?_
    cases s.ltg.test <;> rfl
  case noResult =>
    rw [testFields, absent] at test
    exact ⟨test 1 rfl rfl, test 2 rfl rfl, test 3 rfl rfl⟩
  case result =>
    rw [testFields, result] at test
    refine ⟨test 1 rfl rfl, test 2 rfl rfl, test 3 rfl rfl, test 4 rfl rfl, test 5 rfl rfl, fun i inside => ?_,
      (test 10 rfl rfl).trans ?_⟩
    · interval_cases i
      · exact test 6 rfl rfl
      · exact test 7 rfl rfl
      · exact test 8 rfl rfl
      · exact test 9 rfl rfl
    · cases y.record <;> rfl

end Sys2Proof.Machine
end

section
/-! The queue of commands (scope, section 3): what a step takes from it (O1). -/

namespace Sys2Proof.Machine

theorem step_of_pending_cons {c : Instr} {rest : List Instr} {s : State} (front : s.pending = c :: rest) :
    step s = exec c { s with pending := rest } := by
  simp only [step, front]

theorem step_of_pending_nil {s : State} (empty : s.pending = []) : step s = .next s := by
  simp only [step, empty]

/-- Settles O1: a queue has a front command or is empty, and each case is one equation of the step. -/
theorem stepTakesFront : Obligations.StepTakesFront :=
  ⟨fun _ _ _ => step_of_pending_cons, fun _ => step_of_pending_nil⟩

end Sys2Proof.Machine
end
